-- ==== Sys2Proof/Word.lean ====
section
/-! DEFINITION. The word types of the block (00_scope.md R5, R7, R8). -/

namespace Sys2Proof

/-- One byte as it stands on the wire or in a request frame (R8), and the width of `CRC` (R21). -/
abbrev Byte := BitVec 8

/-- A 16-bit unsigned field: the data of a word, an argument, the register `DATA` (R22). -/
abbrev Half := BitVec 16

/-- A raw IEEE-754 single-precision bit pattern, never interpreted by the block (R29, R102). -/
abbrev Pattern := BitVec 32

/-- A request frame: a finite byte string, delimited by the interface, first received byte first (R60). -/
abbrev Frame := List Byte

end Sys2Proof
end

