-- ==== Sys2Proof/Config.lean ====
section
/-! DEFINITION. The constants of the block (00_scope.md R5, R6). Each is fixed: no operation, register or parameter
changes one. The spec draws no free value (93_implementation_defined.md section 1), so none is declared here. The one
open parameter, `GETTER_VALIDATE`, is the requester's (R5, R115): it is an argument of `Safety.getterAccepts`. -/

namespace Sys2Proof.Config

/-- `CRC_INIT` (R5, R80). -/
def crcInit : Byte := 0xFF

/-- `CRC_POLY`: the low eight coefficients of x^8 + x^5 + x^4 + 1; the x^8 term is implicit (R80). -/
def crcPoly : Byte := 0x31

/-- `CRC_XOROUT`: no final XOR (R5, R80, R82). -/
def crcXorOut : Byte := 0x00

/-- `WORD_DATA_BYTES` (R5, R44). -/
def wordDataBytes : Nat := 2

/-- `WORD_BYTES` (R5, R44). -/
def wordBytes : Nat := 3

/-- `MEAS_WORDS` (R5, R47). -/
def measWords : Nat := 6

/-- `MEAS_BYTES` (R5, R47). -/
def measBytes : Nat := 18

/-- `VLEN_MAX`: the most bytes one `CSUM` or `CVAL` request carries (R5, R65). -/
def vlenMax : Nat := 255

end Sys2Proof.Config
end

