-- ==== Sys2Proof/Syntax.lean ====
section
/-! DEFINITION. The ten operations of the block (30_encoding.md R62), the frame formats (R61) and the operand types. -/

namespace Sys2Proof

/-- The three float result registers `FR[0]`, `FR[1]`, `FR[2]` (R29). There is no fourth: `rd` = 3 is reserved (R63). -/
inductive FrReg where
  | fr0
  | fr1
  | fr2
  deriving DecidableEq, Repr

/-- Alias `CO2` of `FR[0]` (R29). -/
abbrev FrReg.co2 : FrReg := .fr0

/-- Alias `TEMP` of `FR[1]` (R29). -/
abbrev FrReg.temp : FrReg := .fr1

/-- Alias `HUM` of `FR[2]` (R29). -/
abbrev FrReg.hum : FrReg := .fr2

/-- A response word in wire order: two data bytes, the most significant first, and the received checksum (R44). -/
structure RespWord where
  d0 : Byte
  d1 : Byte
  c : Byte
  deriving DecidableEq, Repr

/-- The eight frame formats (R61). -/
inductive Format where
  | n
  | b
  | h
  | w
  | f
  | m
  | v
  | vc
  deriving DecidableEq, Repr

/-- The operations, one constructor per row of the opcode table (R62). The length byte of `CSUM` and `CVAL` is the
length of the byte sequence (R65). `MDEC` takes its 18 bytes as the six words they are (R47, R124). -/
inductive Instr where
  /-- `CRCINIT` (R86). -/
  | crcinit
  /-- `CRCUPD b` (R87). -/
  | crcupd (b : Byte)
  /-- `CRCCHK c` (R88). -/
  | crcchk (c : Byte)
  /-- `CSUM n, s` (R89). -/
  | csum (s : List Byte)
  /-- `CVAL n, s, c` (R90). -/
  | cval (s : List Byte) (c : Byte)
  /-- `WCHK d0, d1, c` (R111). -/
  | wchk (w : RespWord)
  /-- `ARGF a0, a1` (R113). -/
  | argf (a0 a1 : Byte)
  /-- `RDYW d0, d1, c` (R122). -/
  | rdyw (w : RespWord)
  /-- `FDEC rd, p0, p1, p2, p3` (R103). -/
  | fdec (rd : FrReg) (p0 p1 p2 p3 : Byte)
  /-- `MDEC w` (R124). -/
  | mdec (w0 w1 w2 w3 w4 w5 : RespWord)
  deriving DecidableEq, Repr

end Sys2Proof
end

