-- ==== Sys2Proof/WellFormed.lean ====
section
/-! DEFINITION. Which terms of `Instr` the encoding can carry. Every other bound of the encoding is in the operand's own
type: a byte has 8 bits, `rd` names one of three registers, a measurement has six words. -/

namespace Sys2Proof

/-- The length byte holds 0 to 255, so `CSUM` and `CVAL` carry at most `VLEN_MAX` bytes (R65). -/
def Instr.wellFormed : Instr → Bool
  | .crcinit => true
  | .crcupd _ => true
  | .crcchk _ => true
  | .csum s => decide (s.length ≤ Config.vlenMax)
  | .cval s _ => decide (s.length ≤ Config.vlenMax)
  | .wchk _ => true
  | .argf _ _ => true
  | .rdyw _ => true
  | .fdec _ _ _ _ _ => true
  | .mdec _ _ _ _ _ _ => true

end Sys2Proof
end

