-- ==== Sys2Proof/Decode.lean ====
section
/-! DEFINITION. The opcode map, the decoder, the encoder and the opcode table's numbering of an instruction's bits
(30_encoding.md R60 to R69). -/

namespace Sys2Proof

/-- Why a frame is no operation, by name (R140's three causes of `IllegalOp`). The outcome `IllegalOp` reports none of
this (R140); the names serve claims about the decoder. -/
inductive DecodeError where
  /-- The frame has no byte. -/
  | emptyFrame
  /-- Byte 0 selects no operation (R67). -/
  | reservedOpcode (op : Byte)
  /-- The frame's length is not the length its opcode requires (R66). -/
  | wrongLength (op : Byte) (len : Nat)
  deriving DecidableEq, Repr

/-- The frame length of a format; `n` is the length byte `frame[1]`, which only V and VC have (R61, R65). -/
def Format.length (fmt : Format) (n : Nat) : Nat :=
  match fmt with
  | .n => 1
  | .b => 2
  | .h => 3
  | .w => 4
  | .f => 5
  | .m => 19
  | .v => 2 + n
  | .vc => 3 + n

/-- One row of the opcode map: an operation is selected when `(frame[0] AND mask) == value` (R62). -/
structure OpcodeRow where
  mnemonic : String
  format : Format
  value : Byte
  mask : Byte
  deriving DecidableEq, Repr

/-- The opcode map (R62). -/
def opcodeTable : List OpcodeRow :=
  [⟨"CRCINIT", .n, 0x01, 0xFF⟩, ⟨"CRCUPD", .b, 0x02, 0xFF⟩, ⟨"CRCCHK", .b, 0x03, 0xFF⟩,
   ⟨"CSUM", .v, 0x04, 0xFF⟩, ⟨"CVAL", .vc, 0x05, 0xFF⟩, ⟨"WCHK", .w, 0x10, 0xFF⟩,
   ⟨"ARGF", .h, 0x11, 0xFF⟩, ⟨"RDYW", .w, 0x12, 0xFF⟩, ⟨"FDEC", .f, 0x20, 0xFC⟩,
   ⟨"MDEC", .m, 0x30, 0xFF⟩]

/-- Does the row's match and mask select this byte 0 (R62). -/
def OpcodeRow.selects (row : OpcodeRow) (op : Byte) : Bool := (op &&& row.mask) == row.value

/-- An operation's mnemonic (R62). -/
def Instr.mnemonic : Instr → String
  | .crcinit => "CRCINIT"
  | .crcupd _ => "CRCUPD"
  | .crcchk _ => "CRCCHK"
  | .csum _ => "CSUM"
  | .cval _ _ => "CVAL"
  | .wchk _ => "WCHK"
  | .argf _ _ => "ARGF"
  | .rdyw _ => "RDYW"
  | .fdec _ _ _ _ _ => "FDEC"
  | .mdec _ _ _ _ _ _ => "MDEC"

/-- The register the two-bit selector `rd` names; 3 names none (R63). -/
def FrReg.ofSelector (rd : BitVec 2) : Option FrReg :=
  if rd = 0 then some .fr0
  else if rd = 1 then some .fr1
  else if rd = 2 then some .fr2
  else none

/-- The two-bit selector of a register (R63). -/
def FrReg.selector : FrReg → BitVec 2
  | .fr0 => 0
  | .fr1 => 1
  | .fr2 => 2

/-- The format of the operation that byte 0 selects, `none` where byte 0 is reserved: the map's row, less the `FDEC`
pattern with `rd` = 3 (R62, R63, R67). -/
def formatOfOpcode (op : Byte) : Option Format :=
  if op = 0x23 then none else (opcodeTable.find? (fun row => row.selects op)).map OpcodeRow.format

/-- The length the frame's opcode requires, `none` where there is no opcode or it is reserved (R61, R66). A V or VC
frame without a length byte is counted with n = 0, a length it does not have either (R69). -/
def requiredLength : Frame → Option Nat
  | [] => none
  | op :: rest => (formatOfOpcode op).map (fun fmt => fmt.length (rest.headD 0).toNat)

/-- Operand of formats V: the length byte and exactly that many bytes (R65, R69). -/
def decodeCsum (op : Byte) : List Byte → Except DecodeError Instr
  | [] => .error (.wrongLength op 1)
  | n :: s => if s.length = n.toNat then .ok (.csum s) else .error (.wrongLength op (2 + s.length))

/-- Operands of format VC: the length byte, that many bytes, and one checksum byte (R65, R69). -/
def decodeCval (op : Byte) : List Byte → Except DecodeError Instr
  | [] => .error (.wrongLength op 1)
  | n :: t =>
    match t.drop n.toNat with
    | [c] => .ok (.cval (t.take n.toNat) c)
    | _ => .error (.wrongLength op (2 + t.length))

/-- Operands of `FDEC`; the register selector is bits 1:0 of byte 0, and 3 is a reserved encoding whatever the frame's
length (R63, R67). -/
def decodeFdec (op : Byte) (rest : List Byte) : Except DecodeError Instr :=
  match FrReg.ofSelector (op.extractLsb' 0 2) with
  | none => .error (.reservedOpcode op)
  | some rd =>
    match rest with
    | [p0, p1, p2, p3] => .ok (.fdec rd p0 p1 p2 p3)
    | _ => .error (.wrongLength op (1 + rest.length))

/-- Operands of `MDEC`: 18 bytes, word i being bytes 3i, 3i+1 and 3i+2 of them (R61, R124). -/
def decodeMdec (op : Byte) : List Byte → Except DecodeError Instr
  | [a0, a1, a2, b0, b1, b2, c0, c1, c2, d0, d1, d2, e0, e1, e2, f0, f1, f2] =>
    .ok (.mdec ⟨a0, a1, a2⟩ ⟨b0, b1, b2⟩ ⟨c0, c1, c2⟩ ⟨d0, d1, d2⟩ ⟨e0, e1, e2⟩ ⟨f0, f1, f2⟩)
  | rest => .error (.wrongLength op (1 + rest.length))

/-- The decoder: total on byte strings, in the order of R69. Every refused frame is `IllegalOp` to the requester. -/
def decode : Frame → Except DecodeError Instr
  | [] => .error .emptyFrame
  | op :: rest =>
    if op = 0x01 then
      match rest with
      | [] => .ok .crcinit
      | _ => .error (.wrongLength op (1 + rest.length))
    else if op = 0x02 then
      match rest with
      | [b] => .ok (.crcupd b)
      | _ => .error (.wrongLength op (1 + rest.length))
    else if op = 0x03 then
      match rest with
      | [c] => .ok (.crcchk c)
      | _ => .error (.wrongLength op (1 + rest.length))
    else if op = 0x04 then decodeCsum op rest
    else if op = 0x05 then decodeCval op rest
    else if op = 0x10 then
      match rest with
      | [d0, d1, c] => .ok (.wchk ⟨d0, d1, c⟩)
      | _ => .error (.wrongLength op (1 + rest.length))
    else if op = 0x11 then
      match rest with
      | [a0, a1] => .ok (.argf a0 a1)
      | _ => .error (.wrongLength op (1 + rest.length))
    else if op = 0x12 then
      match rest with
      | [d0, d1, c] => .ok (.rdyw ⟨d0, d1, c⟩)
      | _ => .error (.wrongLength op (1 + rest.length))
    else if op &&& 0xFC = 0x20 then decodeFdec op rest
    else if op = 0x30 then decodeMdec op rest
    else .error (.reservedOpcode op)

/-- The three bytes of a response word in wire order (R44). -/
def RespWord.bytes (w : RespWord) : List Byte := [w.d0, w.d1, w.c]

/-- The request frame of an operation (R61, R62; the `frame` column of R71). -/
def encode : Instr → Frame
  | .crcinit => [0x01]
  | .crcupd b => [0x02, b]
  | .crcchk c => [0x03, c]
  | .csum s => 0x04 :: BitVec.ofNat 8 s.length :: s
  | .cval s c => 0x05 :: BitVec.ofNat 8 s.length :: (s ++ [c])
  | .wchk w => 0x10 :: w.bytes
  | .argf a0 a1 => [0x11, a0, a1]
  | .rdyw w => 0x12 :: w.bytes
  | .fdec rd p0 p1 p2 p3 => [0x20 ||| rd.selector.setWidth 8, p0, p1, p2, p3]
  | .mdec w0 w1 w2 w3 w4 w5 =>
    0x30 :: (w0.bytes ++ w1.bytes ++ w2.bytes ++ w3.bytes ++ w4.bytes ++ w5.bytes)

/-- Byte `i` of an instruction whose bits are `w`: bits 8i+7 to 8i, byte 0 the least significant. -/
def tableByte (w i : Nat) : Byte := BitVec.ofNat 8 (w >>> (8 * i))

/-- The frame of the instruction whose bits, numbered as spec/opcode_table.json numbers them, are the low `nbits` bits
of `w`. The interface delimits a frame (R60); here it is delimited at the length the opcode requires, the bytes above
`nbits` being zero, and never cut shorter than the bits given. A reserved opcode requires no length: the frame is the
bytes given. (Log entry 6.) -/
def frameOfTableWord (nbits w : Nat) : Frame :=
  let bits := w % 2 ^ nbits
  let given := (nbits + 7) / 8
  let need := (requiredLength [tableByte bits 0, tableByte bits 1]).getD given
  (List.range (max given need)).map (tableByte bits)

/-- The operation the decoder reads from an instruction whose bits are `w`, `none` where it refuses. -/
def decodeTableWord (nbits w : Nat) : Option Instr :=
  match decode (frameOfTableWord nbits w) with
  | .ok i => some i
  | .error _ => none

end Sys2Proof
end

