-- ==== Sys2Proof/Machine/State.lean ====
section
/-! DEFINITION. The block's state (10_state.md), and the input and output that stand beside it. -/

namespace Sys2Proof.Machine

/-- The complete architectural state of the block, 122 bits (R20). -/
structure Regs where
  /-- `CRC`, the checksum engine's running value (R21). -/
  crc : Byte
  /-- `V`, the verdict of the most recent validation (R23). -/
  v : Bool
  /-- `RDY`, the most recent decoded data-ready flag (R24). -/
  rdy : Bool
  /-- `DATA`, the 16-bit value of the most recent word processed (R22). -/
  data : Half
  /-- `FR[0]`, alias `CO2` (R29). -/
  fr0 : Pattern
  /-- `FR[1]`, alias `TEMP` (R29). -/
  fr1 : Pattern
  /-- `FR[2]`, alias `HUM` (R29). -/
  fr2 : Pattern
  deriving DecidableEq, Repr

/-- Every register at its reset value (R31). -/
def Regs.reset : Regs where
  crc := 0xFF
  v := false
  rdy := false
  data := 0x0000
  fr0 := 0x00000000
  fr1 := 0x00000000
  fr2 := 0x00000000

/-- What the outside may do to the block. DESIGN CHOICE: it stands in a list (log entries 1 and 4). -/
inductive Input where
  /-- The requester issues one request frame (R60). -/
  | request (frame : Frame)
  /-- The reset event is applied (R160). -/
  | reset
  deriving DecidableEq, Repr

/-- The outcomes of an operation (R140). -/
inductive ReplyOutcome where
  | ok
  | checksumInvalid
  | illegalOp
  deriving DecidableEq, Repr

/-- The two exceptions (R9, R140). -/
inductive Exc where
  /-- At least one of `MDEC`'s six words failed `validate` (R141). -/
  | checksumInvalid
  /-- The frame encodes none of the ten operations (R142). -/
  | illegalOp
  deriving DecidableEq, Repr

/-- The typed value returned with the outcome, one constructor per "Result" line of the operation rules (R70). -/
inductive Result where
  /-- No result: `CRCINIT`, `CRCUPD`, and every outcome that is not `Ok`. -/
  | empty
  /-- The new `V`: `CRCCHK` (R88), `CVAL` (R90). -/
  | verdict (valid : Bool)
  /-- The checksum: `CSUM` (R89). -/
  | checksum (c : Byte)
  /-- The pair (data, valid): `WCHK` (R111). -/
  | wordCheck (data : Half) (valid : Bool)
  /-- The byte sequence to transmit: `ARGF` (R113). -/
  | argFrame (bytes : List Byte)
  /-- The new `RDY`: `RDYW` (R122). -/
  | ready (r : Bool)
  /-- The pattern written: `FDEC` (R103). -/
  | pattern (p : Pattern)
  /-- The triple (co2, temperature, humidity): `MDEC` (R124). -/
  | triple (co2 temperature humidity : Pattern)
  deriving DecidableEq, Repr

/-- The response to a request: the pair (outcome, result) (R70). -/
structure Response where
  outcome : ReplyOutcome
  result : Result
  deriving DecidableEq, Repr

/-- The machine. `regs` is all of the block's state (R20). `inputs` and `response` are the step's input and output,
which the spec keeps out of the block's state (R20, R28): the pipeline's step is a function of one state, so they stand
beside the registers. No operation reads `response`, and none reads `inputs` beyond the request it serves. -/
structure State where
  regs : Regs
  /-- What the outside does next, oldest first (log entry 1). -/
  inputs : List Input
  /-- The response to the most recent request since reset, `none` before the first (log entry 2). -/
  response : Option Response
  deriving DecidableEq, Repr

/-- The machine right after reset (R31, R160): nothing requested yet, nothing answered yet. -/
def State.reset : State where
  regs := Regs.reset
  inputs := []
  response := none

/-- Reasons the machine stops. There are none: an exception is the outcome of a response and the next frame is served as
any other (R146, R147), and every operation terminates (R171). Nobody raises a fault; leaving out a constructor is safe
because every step has the effect the spec gives it. DESIGN CHOICE: an `IllegalOp` is not sticky (log entry 12). -/
inductive Fault where
  deriving DecidableEq, Repr

/-- Reasons the model gives no meaning. -/
inductive Refusal where
  /-- An instruction without a meaning in this model, by its mnemonic. Raised by no arm of `exec`; safe. -/
  | notModelled (mnemonic : String)
  deriving DecidableEq, Repr

end Sys2Proof.Machine
end

