-- ==== Sys2Proof/Machine/Flags.lean ====
section
/-! DEFINITION. The two flags, the `STATUS` view and the output ports (10_state.md R23 to R27). There are no arithmetic
condition codes (R25). -/

namespace Sys2Proof.Machine

/-- The new `V` of one comparison: computed checksum against received checksum (R23). -/
def checksumMatches (computed received : Byte) : Bool := computed == received

/-- The new `RDY`: `V AND DATA[0]` on the new `V` and the new `DATA` (R24, R122). -/
def readyFlag (v : Bool) (data : Half) : Bool := v && data.getLsbD 0

/-- The read-only `STATUS` view: bit 0 is `V`, bit 1 is `RDY`, bits 7:2 are zero (R26). -/
def Regs.status (r : Regs) : Byte :=
  (0 : BitVec 6) ++ BitVec.ofBool r.rdy ++ BitVec.ofBool r.v

/-- The output ports, each of its register's own width (R27). -/
structure Ports where
  crc : BitVec 8
  data : BitVec 16
  fr0 : BitVec 32
  fr1 : BitVec 32
  fr2 : BitVec 32
  v : BitVec 1
  rdy : BitVec 1
  status : BitVec 8
  deriving DecidableEq, Repr

/-- What the requester sees on the ports at any time; a read of the state, never a change of it (R27). -/
def portsOf (s : State) : Ports where
  crc := s.regs.crc
  data := s.regs.data
  fr0 := s.regs.fr0
  fr1 := s.regs.fr1
  fr2 := s.regs.fr2
  v := BitVec.ofBool s.regs.v
  rdy := BitVec.ofBool s.regs.rdy
  status := s.regs.status

end Sys2Proof.Machine
end

