-- ==== Sys2Proof/Machine/Ops.lean ====
section
/-! DEFINITION. The named operations over the registers and the response: the only writers of either (00_scope.md R9).
There is no memory (20_memory.md R40), so no operation over memory. -/

namespace Sys2Proof.Machine

/-- `CRC <- c` (R9). -/
def State.setCrc (s : State) (c : Byte) : State := { s with regs := { s.regs with crc := c } }

/-- `V <- b` (R9). -/
def State.setV (s : State) (b : Bool) : State := { s with regs := { s.regs with v := b } }

/-- `RDY <- b` (R9). -/
def State.setRdy (s : State) (b : Bool) : State := { s with regs := { s.regs with rdy := b } }

/-- `DATA <- d` (R9). -/
def State.setData (s : State) (d : Half) : State := { s with regs := { s.regs with data := d } }

/-- Read `FR[rd]` (R9, R29). -/
def Regs.fr (r : Regs) : FrReg → Pattern
  | .fr0 => r.fr0
  | .fr1 => r.fr1
  | .fr2 => r.fr2

/-- `FR[rd] <- p` on the register set (R9, R29). -/
def Regs.setFr (r : Regs) (rd : FrReg) (p : Pattern) : Regs :=
  match rd with
  | .fr0 => { r with fr0 := p }
  | .fr1 => { r with fr1 := p }
  | .fr2 => { r with fr2 := p }

/-- `FR[rd] <- p` (R9, R29). -/
def State.setFr (s : State) (rd : FrReg) (p : Pattern) : State := { s with regs := s.regs.setFr rd p }

/-- `outcome <- Ok ; result <- r`: the operation ends with its register writes standing (R9, R140). -/
def complete (r : Result) (s : State) : Host.Outcome State Fault Refusal :=
  .next { s with response := some ⟨.ok, r⟩ }

/-- The outcome an exception is (R140). -/
def Exc.outcome : Exc → ReplyOutcome
  | .checksumInvalid => .checksumInvalid
  | .illegalOp => .illegalOp

/-- Taking an exception, `raise e` (R9, R146): the outcome of the response is the exception, the result is empty, writes
made before stand, and nothing is saved, masked or branched to. There is no return from an exception to model: nothing
is to be restored and the next frame is served as any other (R147). -/
def takeException (e : Exc) (s : State) : Host.Outcome State Fault Refusal :=
  .next { s with response := some ⟨e.outcome, .empty⟩ }

/-- Go on from a next state; a stop stands. For sequences of operations (R51). -/
def andThen (o : Host.Outcome State Fault Refusal) (k : State → Host.Outcome State Fault Refusal) :
    Host.Outcome State Fault Refusal :=
  match o with
  | .next t => k t
  | .fault r => .fault r
  | .refused r => .refused r

/-- The code of an outcome; code 3 is never produced (R70, R140). -/
def ReplyOutcome.code : ReplyOutcome → BitVec 2
  | .ok => 0
  | .checksumInvalid => 1
  | .illegalOp => 2

end Sys2Proof.Machine
end

