-- ==== Sys2Proof/Machine/ChecksumEngine.lean ====
section
/-! DEFINITION. The checksum-engine operations CRCINIT, CRCUPD, CRCCHK, CSUM, CVAL (40_checksum_engine.md R86 to R90). -/

namespace Sys2Proof.Machine

/-- `CRCINIT` (R86). -/
def execCrcinit (s : State) : Host.Outcome State Fault Refusal :=
  complete .empty (s.setCrc Config.crcInit)

/-- `CRCUPD b` (R87): continues from the old `CRC`, whatever wrote it. -/
def execCrcupd (b : Byte) (s : State) : Host.Outcome State Fault Refusal :=
  complete .empty (s.setCrc (crc8Step s.regs.crc b))

/-- `CRCCHK c` (R88): a mismatch is a result of 0, never an exception. -/
def execCrcchk (c : Byte) (s : State) : Host.Outcome State Fault Refusal :=
  let s1 := s.setV (checksumMatches s.regs.crc c)
  complete (.verdict s1.regs.v) s1

/-- `CSUM n, s` (R89): ignores the old `CRC`. -/
def execCsum (bytes : List Byte) (s : State) : Host.Outcome State Fault Refusal :=
  let s1 := s.setCrc (computeChecksum bytes)
  complete (.checksum s1.regs.crc) s1

/-- `CVAL n, s, c` (R90): ignores the old `CRC`; a mismatch is a result of 0, never an exception. -/
def execCval (bytes : List Byte) (c : Byte) (s : State) : Host.Outcome State Fault Refusal :=
  let s1 := s.setCrc (computeChecksum bytes)
  let s2 := s1.setV (checksumMatches s1.regs.crc c)
  complete (.verdict s2.regs.v) s2

end Sys2Proof.Machine
end

