-- ==== Sys2Proof/Machine/Operands.lean ====
section
/-! DEFINITION. Operand assembly: the only multi-byte operands are big-endian concatenations (30_encoding.md R64,
20_memory.md R41, R42, R55). -/

namespace Sys2Proof.Machine

/-- The 16-bit value `b0 ++ b1` = 256*b0 + b1 of two bytes in wire order (R41, R64). -/
def half (b0 b1 : Byte) : Half := b0 ++ b1

/-- The 32-bit pattern `b0 ++ b1 ++ b2 ++ b3` of four bytes in wire order (R41, R64). -/
def pattern (b0 b1 b2 b3 : Byte) : Pattern := b0 ++ b1 ++ b2 ++ b3

/-- Bits 15:8 of a 16-bit value: its first byte on the wire (R41). -/
def highByte (d : Half) : Byte := d.extractLsb' 8 8

/-- Bits 7:0 of a 16-bit value: its second byte on the wire (R41). -/
def lowByte (d : Half) : Byte := d.extractLsb' 0 8

/-- The four bytes of a pattern in wire order (R41, R106). -/
def patternBytes (p : Pattern) : List Byte :=
  [p.extractLsb' 24 8, p.extractLsb' 16 8, p.extractLsb' 8 8, p.extractLsb' 0 8]

end Sys2Proof.Machine
end

