-- ==== Sys2Proof/Machine/Source.lean ====
section
/-! DEFINITION. The functions of the source that the operations perform, as pure functions: `decode_float`,
`word_check`, `arg_frame`, `ready_decode`, `meas_decode`, and the wire frame of a command. The operations are written
from the pseudocode of their own rules; the statements say that they agree with these. -/

namespace Sys2Proof.Machine

/-- `decode_float([p0, p1], [p2, p3])` (R100). -/
def decodeFloat (p0 p1 p2 p3 : Byte) : Pattern := pattern p0 p1 p2 p3

/-- The 16-bit data of a response word (R44). -/
def wordData (w : RespWord) : Half := half w.d0 w.d1

/-- Is the response word valid: `validate([d0, d1], c)` (R44). -/
def wordValid (w : RespWord) : Bool := validate [w.d0, w.d1] w.c

/-- `word_check([d0, d1, c])`: the data, valid or not, and the verdict (R110). -/
def wordCheck (w : RespWord) : Half × Bool := (wordData w, wordValid w)

/-- `arg_frame(a)` (R112). -/
def argFrame (a : Half) : List Byte :=
  [highByte a, lowByte a, computeChecksum [highByte a, lowByte a]]

/-- The wire frame of a command with an argument; the checksum covers the argument only (R45). -/
def commandFrame (k : Half) (a : Half) : List Byte := [highByte k, lowByte k] ++ argFrame a

/-- The wire frame of a bare command, which carries no checksum (R45). -/
def bareCommandFrame (k : Half) : List Byte := [highByte k, lowByte k]

/-- `ready_decode([d0, d1, c])` (R121). -/
def readyDecode (w : RespWord) : Bool := validate [w.d0, w.d1] w.c && w.d1.getLsbD 0

/-- The measurement triple {co2, temperature, humidity} (R125). -/
structure Triple where
  co2 : Pattern
  temperature : Pattern
  humidity : Pattern
  deriving DecidableEq, Repr

/-- `meas_decode(w)`: the triple when all six words are valid, else `ChecksumInvalid` and nothing of it (R123). -/
def measDecode (w0 w1 w2 w3 w4 w5 : RespWord) : Except Exc Triple :=
  if wordValid w0 && wordValid w1 && wordValid w2 && wordValid w3 && wordValid w4 && wordValid w5 then
    .ok { co2 := decodeFloat w0.d0 w0.d1 w1.d0 w1.d1
          temperature := decodeFloat w2.d0 w2.d1 w3.d0 w3.d1
          humidity := decodeFloat w4.d0 w4.d1 w5.d0 w5.d1 }
  else .error .checksumInvalid

/-- The two bytes (major, minor) of a firmware-version word; DEDUCED: R115 marks the order as derived (log
entry 11). -/
def firmwareVersion (data : Half) : Byte × Byte := (highByte data, lowByte data)

end Sys2Proof.Machine
end

