-- ==== Sys2Proof/Machine/FloatDecoder.lean ====
section
/-! DEFINITION. The measurement decoder's operation FDEC (41_measurement_decoder.md R103). -/

namespace Sys2Proof.Machine

/-- `FDEC rd, p0, p1, p2, p3` (R103): total and ungated; it checks nothing and reads no register (R105). -/
def execFdec (rd : FrReg) (p0 p1 p2 p3 : Byte) (s : State) : Host.Outcome State Fault Refusal :=
  let s1 := s.setFr rd (decodeFloat p0 p1 p2 p3)
  complete (.pattern (s1.regs.fr rd)) s1

end Sys2Proof.Machine
end

