-- ==== Sys2Proof/Machine/WordCodec.lean ====
section
/-! DEFINITION. The word-level operations WCHK and ARGF (42_word_codec.md R111, R113), and the examination of one
response word that WCHK, RDYW and MDEC share. -/

namespace Sys2Proof.Machine

/-- `CRC <- compute_checksum([d0, d1])` and `DATA <- d0 ++ d1`, written whether or not the checksum matches: what WCHK,
RDYW and each round of MDEC do with a response word before they judge it (R22, R111, R122, R124). -/
def examineWord (w : RespWord) (s : State) : State :=
  (s.setCrc (computeChecksum [w.d0, w.d1])).setData (half w.d0 w.d1)

/-- `WCHK d0, d1, c` (R111): reports validity as a value, never an exception. -/
def execWchk (w : RespWord) (s : State) : Host.Outcome State Fault Refusal :=
  let s1 := examineWord w s
  let s2 := s1.setV (checksumMatches s1.regs.crc w.c)
  complete (.wordCheck s2.regs.data s2.regs.v) s2

/-- `ARGF a0, a1` (R113): producing a checksum is no validation, so `V` stands. -/
def execArgf (a0 a1 : Byte) (s : State) : Host.Outcome State Fault Refusal :=
  let s1 := (s.setData (half a0 a1)).setCrc (computeChecksum [a0, a1])
  complete (.argFrame [highByte s1.regs.data, lowByte s1.regs.data, s1.regs.crc]) s1

end Sys2Proof.Machine
end

