-- ==== Sys2Proof/Machine/Policy.lean ====
section
/-! DEFINITION. The two policy operations: RDYW, tolerant, and MDEC, strict (43_policy_ops.md R120 to R126). -/

namespace Sys2Proof.Machine

/-- `RDYW d0, d1, c` (R122): a mismatch is the ordinary result 0, and nothing is raised (R152). -/
def execRdyw (w : RespWord) (s : State) : Host.Outcome State Fault Refusal :=
  let s1 := examineWord w s
  let s2 := s1.setV (checksumMatches s1.regs.crc w.c)
  let s3 := s2.setRdy (readyFlag s2.regs.v s2.regs.data)
  complete (.ready s3.regs.rdy) s3

/-- The loop of `MDEC` (R124): every word is examined, in order, with no early exit; `all` gathers the six verdicts. -/
def examineWords : List RespWord → Bool → State → Bool × State
  | [], all, s => (all, s)
  | w :: ws, all, s =>
    let s1 := examineWord w s
    examineWords ws (all && checksumMatches s1.regs.crc w.c) s1

/-- `MDEC w` (R124): `CRC`, `DATA` and `V` are written first; a bad word then raises `ChecksumInvalid` before any `FR`
register is written; otherwise co2, temperature and humidity go to `FR[0]`, `FR[1]`, `FR[2]` (R125). -/
def execMdec (w0 w1 w2 w3 w4 w5 : RespWord) (s : State) : Host.Outcome State Fault Refusal :=
  let examined := examineWords [w0, w1, w2, w3, w4, w5] true s
  let s1 := examined.2.setV examined.1
  if examined.1 then
    let s2 := ((s1.setFr .fr0 (pattern w0.d0 w0.d1 w1.d0 w1.d1)).setFr .fr1
      (pattern w2.d0 w2.d1 w3.d0 w3.d1)).setFr .fr2 (pattern w4.d0 w4.d1 w5.d0 w5.d1)
    complete (.triple s2.regs.fr0 s2.regs.fr1 s2.regs.fr2) s2
  else takeException .checksumInvalid s1

end Sys2Proof.Machine
end

