-- ==== Sys2Proof/Machine/Dispatch.lean ====
section
/-! DEFINITION. One arm per operation (R62). -/

namespace Sys2Proof.Machine

def exec (i : Instr) (s : State) : Host.Outcome State Fault Refusal :=
  match i with
  | .crcinit => Sys2Proof.Machine.execCrcinit s
  | .crcupd b => Sys2Proof.Machine.execCrcupd b s
  | .crcchk c => Sys2Proof.Machine.execCrcchk c s
  | .csum bytes => Sys2Proof.Machine.execCsum bytes s
  | .cval bytes c => Sys2Proof.Machine.execCval bytes c s
  | .wchk w => Sys2Proof.Machine.execWchk w s
  | .argf a0 a1 => Sys2Proof.Machine.execArgf a0 a1 s
  | .rdyw w => Sys2Proof.Machine.execRdyw w s
  | .fdec rd p0 p1 p2 p3 => Sys2Proof.Machine.execFdec rd p0 p1 p2 p3 s
  | .mdec w0 w1 w2 w3 w4 w5 => Sys2Proof.Machine.execMdec w0 w1 w2 w3 w4 w5 s

end Sys2Proof.Machine
end

