-- ==== Sys2Proof/Machine/Request.lean ====
section
/-! DEFINITION. What the block does with one input: a request frame is decoded before anything else and then executed
(30_encoding.md R69), a reset puts every register back (70_reset_and_hazards.md R160). -/

namespace Sys2Proof.Machine

/-- Serve one request frame: the operation it encodes, or `IllegalOp` with every register as it was (R69, R142). -/
def serve (f : Frame) (s : State) : Host.Outcome State Fault Refusal :=
  match decode f with
  | .ok i => exec i s
  | .error _ => takeException .illegalOp s

/-- The reset event: the machine is as after reset, and what the outside does next still stands (R31, R160). DESIGN
CHOICE: it arrives between operations and clears the response (log entries 2 and 4). -/
def applyReset (s : State) : State := { State.reset with inputs := s.inputs }

/-- One input (R51, R60, R160). -/
def takeInput (x : Input) (s : State) : Host.Outcome State Fault Refusal :=
  match x with
  | .request f => serve f s
  | .reset => .next (applyReset s)

/-- With nothing asked of it the block does nothing: it acts only when a frame is issued (R144). DEDUCED (log entry 3). -/
def idle (s : State) : Host.Outcome State Fault Refusal := .next s

end Sys2Proof.Machine
end

