-- ==== Sys2Proof/Machine/Step.lean ====
section
/-! DEFINITION. One step: the oldest input is taken and served to completion (20_memory.md R51). -/

namespace Sys2Proof.Machine

/-- Take the oldest input; each operation is one atomic step (R49, R51). -/
def step (s : State) : Host.Outcome State Fault Refusal :=
  match s.inputs with
  | [] => idle s
  | x :: rest => takeInput x { s with inputs := rest }

/-- `s` with the instruction whose bits are `w` issued as the very next request. The block has no program counter and
fetches nothing (R28, R53): this stands for the requester issuing that frame (log entry 6). -/
def State.withFetchWord (s : State) (nbits w : Nat) : State :=
  { s with inputs := .request (frameOfTableWord nbits w) :: s.inputs }

end Sys2Proof.Machine
end

