-- ==== Sys2Proof/Machine/Ieee.lean ====
section
/-! DEFINITION. What number a pattern denotes, IEEE-754 single precision as R101 supplies it. PRESUMED: general
knowledge by the spec's own mark (93_implementation_defined.md G2; log entry 8). No operation uses it: the block never
looks inside the 32 bits (R102). -/

namespace Sys2Proof.Machine

/-- The sign bit, bit 31 (R101). -/
def floatSign (p : Pattern) : Bool := p.getLsbD 31

/-- The biased exponent, bits 30:23 (R101). -/
def floatExponent (p : Pattern) : Nat := (p.extractLsb' 23 8).toNat

/-- The fraction, bits 22:0 (R101). -/
def floatFraction (p : Pattern) : Nat := (p.extractLsb' 0 23).toNat

/-- The kinds of pattern (R101). -/
inductive FloatClass where
  | zero
  | subnormal
  | normal
  | infinity
  | nan
  deriving DecidableEq, Repr

/-- The kind of a pattern (R101). -/
def floatClass (p : Pattern) : FloatClass :=
  if floatExponent p = 0 then
    if floatFraction p = 0 then .zero else .subnormal
  else if floatExponent p = 255 then
    if floatFraction p = 0 then .infinity else .nan
  else .normal

/-- The value of a finite pattern, `none` for the infinities and the NaNs; both zeros have the value 0 and are told
apart by `floatSign` (R101). -/
def floatValue (p : Pattern) : Option ℚ :=
  let sign : ℚ := if floatSign p then -1 else 1
  let f : ℚ := floatFraction p
  match floatClass p with
  | .zero => some 0
  | .subnormal => some (sign * 2 ^ (-126 : ℤ) * (f / 2 ^ 23))
  | .normal => some (sign * 2 ^ ((floatExponent p : ℤ) - 127) * (1 + f / 2 ^ 23))
  | .infinity => none
  | .nan => none

end Sys2Proof.Machine
end

