-- ==== Sys2Proof/Machine/Pseudo.lean ====
section
/-! DEFINITION. Sequences of operations and the pseudo-operations (30_encoding.md R72). -/

namespace Sys2Proof.Machine

/-- Operations one after another, each from the state the one before it left (R51). -/
def execSeq : List Instr → State → Host.Outcome State Fault Refusal
  | [], s => .next s
  | i :: is, s => andThen (exec i s) (execSeq is)

/-- Requests one after another, each served from the state the one before it left (R51). -/
def serveSeq : List Frame → State → Host.Outcome State Fault Refusal
  | [], s => .next s
  | f :: fs, s => andThen (serve f s) (serveSeq fs)

/-- The pseudo-operations that are fixed sequences (R72). -/
inductive Pseudo where
  | computeChecksum (s : List Byte)
  | validate (s : List Byte) (c : Byte)
  | decodeFloat (rd : FrReg) (p0 p1 p2 p3 : Byte)
  /-- `ARGW v` with a 16-bit value. -/
  | argw (v : Half)
  /-- `CSUMS`: a streamed checksum of any length. -/
  | csums (s : List Byte)
  /-- `CVALS`: a streamed validation of any length. -/
  | cvals (s : List Byte) (c : Byte)
  deriving DecidableEq, Repr

/-- The streamed checksum: `CRCINIT`, then one `CRCUPD` per byte (R65, R72). -/
def streamed (s : List Byte) : List Instr := .crcinit :: s.map .crcupd

/-- The expansion column of R72. -/
def expand : Pseudo → List Instr
  | .computeChecksum s => [.csum s]
  | .validate s c => [.cval s c]
  | .decodeFloat rd p0 p1 p2 p3 => [.fdec rd p0 p1 p2 p3]
  | .argw v => [.argf (highByte v) (lowByte v)]
  | .csums s => streamed s
  | .cvals s c => streamed s ++ [.crcchk c]

/-- `FDECV` (R72): two `WCHK`, then `FDEC` only if `V` was 1 after each. The test is the requester's: the block has no
conditional operation. -/
def runFdecv (rd : FrReg) (w0 w1 : RespWord) (s : State) : Host.Outcome State Fault Refusal :=
  andThen (exec (.wchk w0) s) fun t0 =>
    andThen (exec (.wchk w1) t0) fun t1 =>
      if t0.regs.v && t1.regs.v then exec (.fdec rd w0.d0 w0.d1 w1.d0 w1.d1) t1 else .next t1

end Sys2Proof.Machine
end

