-- ==== Sys2Proof/Safety.lean ====
section
/-! DEFINITION. What the requester must respect and may rely on, in the terms the statements use
(70_reset_and_hazards.md R164 to R169). The block detects no violation; each is a premise of a claim. -/

namespace Sys2Proof.Safety

open Sys2Proof.Machine

/-- The frame is answered `IllegalOp` with an empty result wherever it is the next request, and no register changes
(R142). -/
def Rejected (f : Frame) : Prop :=
  ∀ (s : State) (rest : List Input), s.inputs = .request f :: rest →
    step s = .next { s with inputs := rest, response := some ⟨.illegalOp, .empty⟩ }

/-- `s` after an operation that ended `Ok`: these registers, this result, the same pending inputs (R9). -/
def answered (s : State) (r : Regs) (result : Result) : State :=
  { s with regs := r, response := some ⟨.ok, result⟩ }

/-- The bytes whose checksum an operation computes from 0xFF and leaves in `CRC`; `none` for the operations that do not
start afresh (R21, R162). For `MDEC` they are the data bytes of word 5. -/
def checkedBytes : Instr → Option (List Byte)
  | .crcinit => none
  | .crcupd _ => none
  | .crcchk _ => none
  | .csum s => some s
  | .cval s _ => some s
  | .wchk w => some [w.d0, w.d1]
  | .argf a0 a1 => some [a0, a1]
  | .rdyw w => some [w.d0, w.d1]
  | .fdec _ _ _ _ _ => none
  | .mdec _ _ _ _ _ w5 => some [w5.d0, w5.d1]

/-- The twelve values of byte 0 that select an operation (R67). -/
def assignedOpcodes : List Byte := [0x01, 0x02, 0x03, 0x04, 0x05, 0x10, 0x11, 0x12, 0x20, 0x21, 0x22, 0x30]

/-- A response word with bit `k` of its 24 bits flipped, bit 23 the top bit of its first byte (R92). -/
def flipBit (w : RespWord) (k : Nat) : RespWord :=
  let x : BitVec 24 := (w.d0 ++ w.d1 ++ w.c) ^^^ ((1 : BitVec 24) <<< k)
  ⟨x.extractLsb' 16 8, x.extractLsb' 8 8, x.extractLsb' 0 8⟩

/-- The operation's answer does not rest on a register: from two states that differ only by `put`, the responses agree
and so do the registers that `keep` shows. -/
def Ignores (i : Instr) (put : State → State) (keep : Regs → Regs) : Prop :=
  ∀ s : State, ∃ t u : State, exec i s = .next t ∧ exec i (put s) = .next u ∧
    u.response = t.response ∧ keep u.regs = keep t.regs

/-- The product over GF(2) of a byte's polynomial with x^8 + x^5 + x^4 + 1, whose nine coefficients are 0x131 (R80). -/
def generatorMultiple (q : Byte) : BitVec 16 :=
  (List.range 8).foldl (fun acc k => if q.getLsbD k then acc ^^^ ((0x131 : BitVec 16) <<< k) else acc) 0

/-- Operations that may stand inside a streamed checksum without disturbing it (R166). -/
def keepsStream : Instr → Bool
  | .crcinit => false
  | .crcupd _ => true
  | .crcchk _ => true
  | .csum _ => false
  | .cval _ _ => false
  | .wchk _ => false
  | .argf _ _ => false
  | .rdyw _ => false
  | .fdec _ _ _ _ _ => true
  | .mdec _ _ _ _ _ _ => false

/-- The bytes a stream of operations feeds to the checksum engine: those of its `CRCUPD`s, in order (R87, R166). -/
def streamedBytes : List Instr → List Byte
  | [] => []
  | .crcupd b :: is => b :: streamedBytes is
  | _ :: is => streamedBytes is

/-- Both words of a pair validate: the requester's precondition of `FDEC` (R105, R164). -/
def ValidPair (w0 w1 : RespWord) : Prop := wordValid w0 = true ∧ wordValid w1 = true

/-- The most recent response delivers a measurement: what a claim about a measurement must rest on (R31). -/
def DeliversMeasurement (s : State) : Prop :=
  s.response = some ⟨.ok, .triple s.regs.fr0 s.regs.fr1 s.regs.fr2⟩

/-- Does a requester with the parameter `GETTER_VALIDATE` take a getter's word, given the `V` after `WCHK`: in the
baseline (`false`) it ignores the verdict (R5, R115, R120). -/
def getterAccepts (getterValidate v : Bool) : Bool := !getterValidate || v

/-- The most recent response agrees with the ports (R27, R165): a value it returns still shows on its port, the pattern
of an `FDEC` on one of the three float ports (the result is the pattern alone and does not name its register, R103). A
response that is not `Ok` has an empty result (R70), and `V` is 0 after a failed `MDEC` (R146). -/
def Coherent (s : State) : Prop :=
  match s.response with
  | none => True
  | some ⟨.ok, .empty⟩ => True
  | some ⟨.ok, .verdict b⟩ => (portsOf s).v = BitVec.ofBool b
  | some ⟨.ok, .checksum c⟩ => (portsOf s).crc = c
  | some ⟨.ok, .wordCheck d b⟩ => (portsOf s).data = d ∧ (portsOf s).v = BitVec.ofBool b
  | some ⟨.ok, .argFrame bytes⟩ =>
    bytes = [highByte (portsOf s).data, lowByte (portsOf s).data, (portsOf s).crc]
  | some ⟨.ok, .ready b⟩ =>
    (portsOf s).rdy = BitVec.ofBool b ∧ (b = true → (portsOf s).v = 1 ∧ (portsOf s).data.getLsbD 0 = true)
  | some ⟨.ok, .pattern p⟩ => (portsOf s).fr0 = p ∨ (portsOf s).fr1 = p ∨ (portsOf s).fr2 = p
  | some ⟨.ok, .triple a b c⟩ =>
    (portsOf s).fr0 = a ∧ (portsOf s).fr1 = b ∧ (portsOf s).fr2 = c ∧ (portsOf s).v = 1
  | some ⟨.checksumInvalid, r⟩ => r = .empty ∧ (portsOf s).v = 0
  | some ⟨.illegalOp, r⟩ => r = .empty

end Sys2Proof.Safety
end

