-- ==== Sys2Proof/Certificates/Slice0/Obligations.lean ====
section
/-! DEFINITION. The statements for the provers, each from the numbered rules of spec/. -/

open Sys2Proof Sys2Proof.Machine Sys2Proof.Safety

/-- Every well-formed operation is what its frame decodes to: no bit of an encoding is dropped (30_encoding.md sections 1
and 3). -/
def Obligations.DecodeEncodeRoundTrip : Prop :=
  ∀ i : Instr, i.wellFormed = true → decode (encode i) = .ok i

/-- R69: the decoder, line by line; every frame on none of these lines is `IllegalOp`. -/
def Obligations.DecoderAcceptsExactly : Prop :=
  ∀ f : Frame,
    (decode f = .ok .crcinit ↔ f = [0x01]) ∧
    (∀ b, decode f = .ok (.crcupd b) ↔ f = [0x02, b]) ∧
    (∀ c, decode f = .ok (.crcchk c) ↔ f = [0x03, c]) ∧
    (∀ s, decode f = .ok (.csum s) ↔ ∃ n : Byte, n.toNat = s.length ∧ f = 0x04 :: n :: s) ∧
    (∀ s c, decode f = .ok (.cval s c) ↔ ∃ n : Byte, n.toNat = s.length ∧ f = 0x05 :: n :: (s ++ [c])) ∧
    (∀ d0 d1 c, decode f = .ok (.wchk ⟨d0, d1, c⟩) ↔ f = [0x10, d0, d1, c]) ∧
    (∀ a0 a1, decode f = .ok (.argf a0 a1) ↔ f = [0x11, a0, a1]) ∧
    (∀ d0 d1 c, decode f = .ok (.rdyw ⟨d0, d1, c⟩) ↔ f = [0x12, d0, d1, c]) ∧
    (∀ p0 p1 p2 p3, decode f = .ok (.fdec .fr0 p0 p1 p2 p3) ↔ f = [0x20, p0, p1, p2, p3]) ∧
    (∀ p0 p1 p2 p3, decode f = .ok (.fdec .fr1 p0 p1 p2 p3) ↔ f = [0x21, p0, p1, p2, p3]) ∧
    (∀ p0 p1 p2 p3, decode f = .ok (.fdec .fr2 p0 p1 p2 p3) ↔ f = [0x22, p0, p1, p2, p3]) ∧
    (∀ w0 w1 w2 w3 w4 w5 : RespWord, decode f = .ok (.mdec w0 w1 w2 w3 w4 w5) ↔
      f = [0x30, w0.d0, w0.d1, w0.c, w1.d0, w1.d1, w1.c, w2.d0, w2.d1, w2.c,
           w3.d0, w3.d1, w3.c, w4.d0, w4.d1, w4.c, w5.d0, w5.d1, w5.c]) ∧
    ((∀ i, decode f ≠ .ok i) → Rejected f)

/-- R66: for every assigned opcode, a frame of another length is `IllegalOp`; an accepted frame is used to its last
byte and no further. -/
def Obligations.WrongLengthRejected : Prop :=
  (∀ f : Frame, f.head? = some 0x01 → f.length ≠ 1 → Rejected f) ∧
  (∀ f : Frame, f.head? = some 0x02 → f.length ≠ 2 → Rejected f) ∧
  (∀ f : Frame, f.head? = some 0x03 → f.length ≠ 2 → Rejected f) ∧
  (∀ (n : Byte) (t : List Byte), t.length ≠ n.toNat → Rejected (0x04 :: n :: t)) ∧ Rejected [0x04] ∧
  (∀ (n : Byte) (t : List Byte), t.length ≠ n.toNat + 1 → Rejected (0x05 :: n :: t)) ∧ Rejected [0x05] ∧
  (∀ f : Frame, f.head? = some 0x10 → f.length ≠ 4 → Rejected f) ∧
  (∀ f : Frame, f.head? = some 0x11 → f.length ≠ 3 → Rejected f) ∧
  (∀ f : Frame, f.head? = some 0x12 → f.length ≠ 4 → Rejected f) ∧
  (∀ f : Frame, f.head? = some 0x20 → f.length ≠ 5 → Rejected f) ∧
  (∀ f : Frame, f.head? = some 0x21 → f.length ≠ 5 → Rejected f) ∧
  (∀ f : Frame, f.head? = some 0x22 → f.length ≠ 5 → Rejected f) ∧
  (∀ f : Frame, f.head? = some 0x30 → f.length ≠ 19 → Rejected f) ∧
  (∀ (f : Frame) (i : Instr), decode f = .ok i → encode i = f)

/-- R67: the reserved opcodes, all 244 of them, whatever the frame's length. -/
def Obligations.ReservedOpcodesRejected : Prop :=
  (∀ (op : Byte) (rest : List Byte), op ∉ assignedOpcodes → Rejected (op :: rest)) ∧
  ((List.range 256).filter (fun k => !(assignedOpcodes.contains (BitVec.ofNat 8 k)))).length = 244 ∧
  (0x00 : Byte) ∉ assignedOpcodes ∧ (0xFF : Byte) ∉ assignedOpcodes ∧ (0x23 : Byte) ∉ assignedOpcodes

/-- R62: the opcode map; a frame whose byte 0 a row selects, at the row's length, decodes to that row's operation (less
0x23, which R63 reserves), a decoded operation has its row, no byte is selected by two rows, and a byte selected by none
is reserved. -/
def Obligations.OpcodeMapSelects : Prop :=
  opcodeTable.map (fun r => (r.mnemonic, r.format, r.value, r.mask)) =
    [("CRCINIT", .n, 0x01, 0xFF), ("CRCUPD", .b, 0x02, 0xFF), ("CRCCHK", .b, 0x03, 0xFF), ("CSUM", .v, 0x04, 0xFF),
     ("CVAL", .vc, 0x05, 0xFF), ("WCHK", .w, 0x10, 0xFF), ("ARGF", .h, 0x11, 0xFF), ("RDYW", .w, 0x12, 0xFF),
     ("FDEC", .f, 0x20, 0xFC), ("MDEC", .m, 0x30, 0xFF)] ∧
  (∀ row ∈ opcodeTable, ∀ (op : Byte) (rest : List Byte), op ≠ 0x23 → op &&& row.mask = row.value →
    (op :: rest).length = row.format.length (rest.headD 0).toNat →
      ∃ i : Instr, decode (op :: rest) = .ok i ∧ i.mnemonic = row.mnemonic) ∧
  (∀ (op : Byte) (rest : List Byte) (i : Instr), decode (op :: rest) = .ok i →
    ∃ row ∈ opcodeTable, op &&& row.mask = row.value ∧ row.mnemonic = i.mnemonic ∧
      (op :: rest).length = row.format.length (rest.headD 0).toNat) ∧
  (∀ (op : Byte) (a b : OpcodeRow), a ∈ opcodeTable → b ∈ opcodeTable →
    op &&& a.mask = a.value → op &&& b.mask = b.value → a = b) ∧
  (∀ (op : Byte) (rest : List Byte), (∀ row ∈ opcodeTable, op &&& row.mask ≠ row.value) → Rejected (op :: rest))

/-- R63: the `rd` field of `FDEC`, and the byte that matches its mask but names no register. -/
def Obligations.FdecRegisterField : Prop :=
  (∀ p0 p1 p2 p3 : Byte,
    decode [0x20, p0, p1, p2, p3] = .ok (.fdec .co2 p0 p1 p2 p3) ∧
    decode [0x21, p0, p1, p2, p3] = .ok (.fdec .temp p0 p1 p2 p3) ∧
    decode [0x22, p0, p1, p2, p3] = .ok (.fdec .hum p0 p1 p2 p3)) ∧
  ((0x23 : Byte) &&& 0xFC = 0x20) ∧ (∀ rest : List Byte, Rejected (0x23 :: rest))

/-- R65: the two variable-length forms, n = 0, the bound of 255 bytes, and the streamed form without a bound. -/
def Obligations.VariableLengthForms : Prop :=
  (∀ (fmt : Format) (n m : Nat), fmt ≠ .v → fmt ≠ .vc → fmt.length n = fmt.length m) ∧
  (∀ (n : Byte) (s : List Byte),
    (s.length = n.toNat → decode (0x04 :: n :: s) = .ok (.csum s)) ∧
    (s.length ≠ n.toNat → Rejected (0x04 :: n :: s))) ∧
  (∀ (n c : Byte) (s : List Byte),
    (s.length = n.toNat → decode (0x05 :: n :: (s ++ [c])) = .ok (.cval s c)) ∧
    (s.length ≠ n.toNat → Rejected (0x05 :: n :: (s ++ [c])))) ∧
  decode [0x04, 0x00] = .ok (.csum []) ∧ (∀ c : Byte, decode [0x05, 0x00, c] = .ok (.cval [] c)) ∧
  (∀ (f : Frame) (s : List Byte), decode f = .ok (.csum s) → s.length ≤ 255) ∧
  (∀ (f : Frame) (s : List Byte) (c : Byte), decode f = .ok (.cval s c) → s.length ≤ 255) ∧
  (∀ (s : List Byte) (c : Byte) (st : State), ∃ t u : State,
    execSeq (.crcinit :: s.map .crcupd) st = .next t ∧ (portsOf t).crc = computeChecksum s ∧
    exec (.crcchk c) t = .next u ∧ u.regs.v = validate s c)

/-- A few frames written out from the encodings of 30_encoding.md section 1, one or more of each family. -/
def Obligations.SampleFramesDecode : Prop :=
  decode [0x01] = .ok .crcinit ∧
  decode [0x02, 0xBE] = .ok (.crcupd 0xBE) ∧
  decode [0x03, 0x92] = .ok (.crcchk 0x92) ∧
  decode [0x04, 0x02, 0xBE, 0xEF] = .ok (.csum [0xBE, 0xEF]) ∧
  decode [0x05, 0x02, 0xBE, 0xEF, 0x92] = .ok (.cval [0xBE, 0xEF] 0x92) ∧
  decode [0x10, 0x00, 0x02, 0xE3] = .ok (.wchk ⟨0x00, 0x02, 0xE3⟩) ∧
  decode [0x11, 0x00, 0x02] = .ok (.argf 0x00 0x02) ∧
  decode [0x12, 0x00, 0x01, 0xB0] = .ok (.rdyw ⟨0x00, 0x01, 0xB0⟩) ∧
  decode [0x21, 0x41, 0xBE, 0x00, 0x00] = .ok (.fdec .fr1 0x41 0xBE 0x00 0x00)

/-- A step at a request the decoder accepts is the operation decoded, run on the state with that request taken off; the
operation leaves the requests after it alone. -/
def Obligations.StepRunsDecodedOperation : Prop :=
  ∀ (s : State) (f : Frame) (rest : List Input) (i : Instr), s.inputs = .request f :: rest → decode f = .ok i →
    step s = exec i { s with inputs := rest } ∧ ∀ t : State, step s = .next t → t.inputs = rest

/-- R142: an `IllegalOp` changes no register. -/
def Obligations.IllegalOpWritesNothing : Prop :=
  ∀ (s : State) (f : Frame) (rest : List Input), s.inputs = .request f :: rest → (∀ i, decode f ≠ .ok i) →
    ∃ t : State, step s = .next t ∧ t.regs = s.regs ∧ t.inputs = rest ∧
      t.response = some ⟨.illegalOp, .empty⟩

/-- The block cannot hang: any number of steps from any state ends in a next state, never in a fault or a refusal
(70_reset_and_hazards.md section 3, "Every operation terminates"; a step with nothing to take is log entry 3). -/
def Obligations.EveryRunAnswers : Prop :=
  ∀ (k : Nat) (s : State), ∃ t : State, Sys2Proof.core.run k s = .next t

/-- With nothing asked of it the block changes nothing (the model's choice, log entry 3, after "It acts only when a
frame is issued", 60_exceptions.md section 2). -/
def Obligations.IdleKeepsState : Prop :=
  ∀ s : State, s.inputs = [] → step s = .next s

/-- R31: the reset values, and a streamed checksum begun straight after reset without a `CRCINIT`. -/
def Obligations.ResetValues : Prop :=
  State.reset.regs.crc = 0xFF ∧ State.reset.regs.v = false ∧ State.reset.regs.rdy = false ∧
  State.reset.regs.data = 0x0000 ∧ State.reset.regs.fr0 = 0x00000000 ∧ State.reset.regs.fr1 = 0x00000000 ∧
  State.reset.regs.fr2 = 0x00000000 ∧ (portsOf State.reset).status = 0x00 ∧
  (∀ bytes : List Byte, ∃ t : State,
    execSeq (bytes.map .crcupd) State.reset = .next t ∧ t.regs.crc = computeChecksum bytes)

/-- The reset event puts every register to its reset value and the next frame is accepted at once; no operation does
what it does. That a reset arrives as an input between operations is the model's choice (log entry 4);
70_reset_and_hazards.md section 1. -/
def Obligations.ResetEvent : Prop :=
  (∀ (s : State) (rest : List Input), s.inputs = .reset :: rest →
    ∃ t : State, step s = .next t ∧
      t.regs = { crc := 0xFF, v := false, rdy := false, data := 0, fr0 := 0, fr1 := 0, fr2 := 0 } ∧ t.inputs = rest) ∧
  (∀ (s : State) (f : Frame) (i : Instr) (rest : List Input), s.inputs = .reset :: .request f :: rest →
    decode f = .ok i → Sys2Proof.core.run 2 s = exec i { State.reset with inputs := rest }) ∧
  (∀ i : Instr, ∃ s t : State, exec i s = .next t ∧ t.regs ≠ Regs.reset)

/-- R86: `CRCINIT`, with its decode-time length check and its corner cases. -/
def Obligations.CrcinitRule : Prop :=
  (∀ s : State, exec .crcinit s = .next (answered s { s.regs with crc := 0xFF } .empty)) ∧
  (∀ f : Frame, f.head? = some 0x01 →
    (f.length = 1 → decode f = .ok .crcinit) ∧ (f.length ≠ 1 → Rejected f)) ∧
  (∀ s t : State, s.regs.crc = 0xFF → exec .crcinit s = .next t → t.regs = s.regs) ∧
  (∀ (i : Instr) (s t : State), (checkedBytes i).isSome = true → exec .crcinit s = .next t → exec i t = exec i s) ∧
  (∀ b : Byte, ∃ t u v : State, exec .crcinit State.reset = .next t ∧ exec (.crcupd b) t = .next u ∧
    exec (.crcupd b) State.reset = .next v ∧ u.regs = v.regs)

/-- R87: `CRCUPD b`, with its corner cases: it continues from whatever wrote `CRC`. -/
def Obligations.CrcupdRule : Prop :=
  (∀ (b : Byte) (s : State),
    exec (.crcupd b) s = .next (answered s { s.regs with crc := crc8Step s.regs.crc b } .empty)) ∧
  (∀ b : Byte, decode [0x02, b] = .ok (.crcupd b)) ∧
  (∀ (i : Instr) (bytes : List Byte) (b : Byte) (s : State), checkedBytes i = some bytes →
    ∃ t u : State, exec i s = .next t ∧ exec (.crcupd b) t = .next u ∧
      u.regs.crc = computeChecksum (bytes ++ [b])) ∧
  (∀ s : State, ∃ t : State, exec (.crcupd s.regs.crc) s = .next t ∧ t.regs.crc = 0x00) ∧
  crc8Step 0xFF 0xBE = 0x0C ∧ crc8Step 0x0C 0xEF = 0x92

/-- R88: `CRCCHK c`: one comparison, `CRC` untouched, a mismatch a value. -/
def Obligations.CrcchkRule : Prop :=
  (∀ (c : Byte) (s : State),
    exec (.crcchk c) s =
      .next (answered s { s.regs with v := decide (s.regs.crc = c) } (.verdict (decide (s.regs.crc = c))))) ∧
  (∀ c : Byte, decode [0x03, c] = .ok (.crcchk c)) ∧
  (∃ t : State, exec (.crcchk 0xFF) State.reset = .next t ∧ t.regs.v = true ∧ validate [] 0xFF = true) ∧
  (∀ s : State, ∃ t u : State, exec .crcinit s = .next t ∧ exec (.crcchk 0xFF) t = .next u ∧ u.regs.v = true) ∧
  (∀ s : State, s.regs.crc = 0x92 → ∃ t u : State, exec (.crcchk 0x92) s = .next t ∧ t.regs.v = true ∧
    exec (.crcchk 0x93) t = .next u ∧ u.regs.v = false)

/-- R89: `CSUM n, s`, with its decode-time length check and its streamed equivalent. -/
def Obligations.CsumRule : Prop :=
  (∀ (bytes : List Byte) (s : State),
    exec (.csum bytes) s =
      .next (answered s { s.regs with crc := computeChecksum bytes } (.checksum (computeChecksum bytes)))) ∧
  (∀ (n : Byte) (bytes : List Byte),
    (bytes.length = n.toNat → decode (0x04 :: n :: bytes) = .ok (.csum bytes)) ∧
    (bytes.length ≠ n.toNat → Rejected (0x04 :: n :: bytes))) ∧ Rejected [0x04] ∧
  computeChecksum [] = 0xFF ∧
  (∀ (bytes : List Byte) (s : State), ∃ t u : State, exec (.csum bytes) s = .next t ∧
    execSeq (.crcinit :: bytes.map .crcupd) s = .next u ∧ t.regs = u.regs) ∧
  computeChecksum [0xBE, 0xEF] = 0x92

/-- R90: `CVAL n, s, c`: a checksum and a comparison, a mismatch a value. -/
def Obligations.CvalRule : Prop :=
  (∀ (bytes : List Byte) (c : Byte) (s : State),
    exec (.cval bytes c) s =
      .next (answered s { s.regs with crc := computeChecksum bytes, v := decide (computeChecksum bytes = c) }
        (.verdict (validate bytes c)))) ∧
  (∀ (n c : Byte) (bytes : List Byte), bytes.length = n.toNat →
    decode (0x05 :: n :: (bytes ++ [c])) = .ok (.cval bytes c)) ∧
  (∀ (c : Byte) (s : State), ∃ t : State, exec (.cval [] c) s = .next t ∧ (t.regs.v = true ↔ c = 0xFF)) ∧
  (∀ (bytes : List Byte) (c : Byte) (s : State), exec (.cval bytes c) s = execSeq [.csum bytes, .crcchk c] s) ∧
  (∀ s : State, ∃ t u : State, exec (.cval [0xBE, 0xEF] 0x92) s = .next t ∧ t.regs.crc = 0x92 ∧ t.regs.v = true ∧
    exec (.cval [0xBE, 0xEF] 0x12) s = .next u ∧ u.regs.crc = 0x92 ∧ u.regs.v = false)

/-- R110 and R111: `WCHK d0, d1, c` delivers the data whether or not the word is valid, and never raises. -/
def Obligations.WchkRule : Prop :=
  (∀ (d0 d1 c : Byte) (s : State), ∃ t : State, exec (.wchk ⟨d0, d1, c⟩) s = .next t ∧
    t = answered s { s.regs with crc := computeChecksum [d0, d1], v := validate [d0, d1] c, data := t.regs.data }
      (.wordCheck t.regs.data (validate [d0, d1] c)) ∧
    t.regs.data.toNat = 256 * d0.toNat + d1.toNat ∧
    wordCheck ⟨d0, d1, c⟩ = (t.regs.data, t.regs.v)) ∧
  (∀ d0 d1 c : Byte, decode [0x10, d0, d1, c] = .ok (.wchk ⟨d0, d1, c⟩)) ∧
  (∀ (d0 d1 c : Byte) (s : State), ∃ t u : State, exec (.cval [d0, d1] c) s = .next t ∧
    exec (.wchk ⟨d0, d1, c⟩) s = .next u ∧ u.regs = { t.regs with data := d0 ++ d1 }) ∧
  wordCheck ⟨0x00, 0x00, 0x81⟩ = (0x0000, true) ∧ wordCheck ⟨0x00, 0x00, 0x00⟩ = (0x0000, false) ∧
  wordCheck ⟨0xFF, 0xFF, 0xFF⟩ = (0xFFFF, false) ∧ computeChecksum [0xFF, 0xFF] = 0xAC ∧
  wordCheck ⟨0x00, 0x02, 0xE3⟩ = (0x0002, true) ∧ computeChecksum [0x00, 0x02] = 0xE3

/-- R113: `ARGF a0, a1`: the argument frame, `V`, `RDY` and `FR` untouched. -/
def Obligations.ArgfRule : Prop :=
  (∀ (a0 a1 : Byte) (s : State), ∃ t : State, exec (.argf a0 a1) s = .next t ∧
    t = answered s { s.regs with data := t.regs.data, crc := computeChecksum [a0, a1] }
      (.argFrame [a0, a1, computeChecksum [a0, a1]]) ∧
    t.regs.data.toNat = 256 * a0.toNat + a1.toNat ∧
    argFrame t.regs.data = [a0, a1, computeChecksum [a0, a1]]) ∧
  (∀ a0 a1 : Byte, decode [0x11, a0, a1] = .ok (.argf a0 a1)) ∧
  computeChecksum [0x00, 0x00] = 0x81 ∧ argFrame 0x0002 = [0x00, 0x02, 0xE3]

/-- R122: `RDYW d0, d1, c`: tolerant; a mismatch is outcome `Ok` with result 0, and only bit 0 of the data counts. -/
def Obligations.RdywRule : Prop :=
  (∀ (d0 d1 c : Byte) (s : State), ∃ t : State, exec (.rdyw ⟨d0, d1, c⟩) s = .next t ∧
    t = answered s { s.regs with crc := computeChecksum [d0, d1], v := validate [d0, d1] c, data := t.regs.data,
                                 rdy := t.regs.rdy } (.ready t.regs.rdy) ∧
    t.regs.data.toNat = 256 * d0.toNat + d1.toNat ∧
    (t.regs.rdy = true ↔ validate [d0, d1] c = true ∧ t.regs.data.toNat % 2 = 1) ∧
    t.regs.rdy = readyDecode ⟨d0, d1, c⟩) ∧
  (∀ d0 d1 c : Byte, decode [0x12, d0, d1, c] = .ok (.rdyw ⟨d0, d1, c⟩)) ∧
  readyDecode ⟨0x00, 0x03, 0xD2⟩ = true ∧ readyDecode ⟨0x00, 0x02, 0xE3⟩ = false ∧
  validate [0x00, 0x02] 0xE3 = true ∧ readyDecode ⟨0x00, 0x01, 0xB0⟩ = true ∧ readyDecode ⟨0x00, 0x01, 0xB1⟩ = false ∧
  computeChecksum [0x00, 0x01] = 0xB0

/-- R103: `FDEC rd, p0, p1, p2, p3`: one float register, bit for bit, gated on nothing. -/
def Obligations.FdecRule : Prop :=
  (∀ (rd : FrReg) (p0 p1 p2 p3 : Byte) (s : State), ∃ p : Pattern,
    p.toNat = p0.toNat * 2 ^ 24 + p1.toNat * 2 ^ 16 + p2.toNat * 2 ^ 8 + p3.toNat ∧
    exec (.fdec rd p0 p1 p2 p3) s = .next (answered s (s.regs.setFr rd p) (.pattern p)) ∧
    (∀ q : FrReg, (s.regs.setFr rd p).fr q = if q = rd then p else s.regs.fr q)) ∧
  (∀ f : Frame, f.head? = some 0x20 ∨ f.head? = some 0x21 ∨ f.head? = some 0x22 → f.length ≠ 5 → Rejected f) ∧
  (∀ rest : List Byte, Rejected (0x23 :: rest)) ∧
  (∀ p0 p1 p2 p3 : Byte,
    (decodeFloat p2 p3 p0 p1).extractLsb' 16 16 = (decodeFloat p0 p1 p2 p3).extractLsb' 0 16 ∧
    (decodeFloat p2 p3 p0 p1).extractLsb' 0 16 = (decodeFloat p0 p1 p2 p3).extractLsb' 16 16) ∧
  decodeFloat 0x00 0x00 0x00 0x00 = Regs.reset.fr0 ∧
  (∀ p0 p1 p2 p3 : Byte, decode [0x20, p0, p1, p2, p3] = .ok (.fdec .fr0 p0 p1 p2 p3) ∧
    decode [0x21, p0, p1, p2, p3] = .ok (.fdec .fr1 p0 p1 p2 p3) ∧
    decode [0x22, p0, p1, p2, p3] = .ok (.fdec .fr2 p0 p1 p2 p3)) ∧
  decodeFloat 0x44 0x54 0xA0 0x00 = 0x4454A000

/-- R124: `MDEC w`: when all six words validate the triple is delivered; when one does not, `ChecksumInvalid` with
`CRC`, `DATA` and `V` written and every float register as it was; `CRC` and `DATA` end as six `WCHK` in turn leave
them. -/
def Obligations.MdecRule : Prop :=
  (∀ (w0 w1 w2 w3 w4 w5 : RespWord) (s : State),
    (∀ w ∈ [w0, w1, w2, w3, w4, w5], validate [w.d0, w.d1] w.c = true) →
      exec (.mdec w0 w1 w2 w3 w4 w5) s = .next (answered s
        { s.regs with
          crc := computeChecksum [w5.d0, w5.d1], data := half w5.d0 w5.d1, v := true,
          fr0 := decodeFloat w0.d0 w0.d1 w1.d0 w1.d1, fr1 := decodeFloat w2.d0 w2.d1 w3.d0 w3.d1,
          fr2 := decodeFloat w4.d0 w4.d1 w5.d0 w5.d1 }
        (.triple (decodeFloat w0.d0 w0.d1 w1.d0 w1.d1) (decodeFloat w2.d0 w2.d1 w3.d0 w3.d1)
          (decodeFloat w4.d0 w4.d1 w5.d0 w5.d1)))) ∧
  (∀ (w0 w1 w2 w3 w4 w5 : RespWord) (s : State),
    (∃ w ∈ [w0, w1, w2, w3, w4, w5], validate [w.d0, w.d1] w.c = false) →
      exec (.mdec w0 w1 w2 w3 w4 w5) s = .next
        { s with
          regs := { s.regs with crc := computeChecksum [w5.d0, w5.d1], data := half w5.d0 w5.d1, v := false }
          response := some ⟨.checksumInvalid, .empty⟩ }) ∧
  (∀ f : Frame, f.head? = some 0x30 → f.length ≠ 19 → Rejected f) ∧
  (∀ w0 w1 w2 w3 w4 w5 : RespWord,
    decode [0x30, w0.d0, w0.d1, w0.c, w1.d0, w1.d1, w1.c, w2.d0, w2.d1, w2.c, w3.d0, w3.d1, w3.c,
      w4.d0, w4.d1, w4.c, w5.d0, w5.d1, w5.c] = .ok (.mdec w0 w1 w2 w3 w4 w5)) ∧
  (∀ (w0 w1 w2 w3 w4 w5 : RespWord) (s : State), ∃ t u : State,
    exec (.mdec w0 w1 w2 w3 w4 w5) s = .next t ∧
    execSeq [.wchk w0, .wchk w1, .wchk w2, .wchk w3, .wchk w4, .wchk w5] s = .next u ∧
    t.regs.crc = u.regs.crc ∧ t.regs.data = u.regs.data ∧
    t.regs.v = [w0, w1, w2, w3, w4, w5].all (fun w => validate [w.d0, w.d1] w.c)) ∧
  (∀ s : State, ∃ t : State,
    exec (.mdec ⟨0x44, 0x54, 0x31⟩ ⟨0xA0, 0x00, 0x7E⟩ ⟨0x41, 0xBE, 0x5C⟩ ⟨0x00, 0x00, 0x81⟩ ⟨0x42, 0x24, 0x93⟩
      ⟨0x00, 0x00, 0x81⟩) s = .next t ∧ DeliversMeasurement t ∧ t.regs.fr0 = 0x4454A000 ∧ t.regs.fr1 = 0x41BE0000 ∧
      t.regs.fr2 = 0x42240000 ∧ t.regs.v = true ∧ t.regs.crc = 0x81 ∧ t.regs.data = 0x0000)

/-- R112 and R45: the argument frame, its place in the wire frame of a command, what `ARGF` answers, and that an
argument echoed back unchanged validates and yields the argument. -/
def Obligations.EchoedArgumentValidates : Prop :=
  ∀ a : Half, ∃ a0 a1 c : Byte, a.toNat = 256 * a0.toNat + a1.toNat ∧ c = computeChecksum [a0, a1] ∧
    argFrame a = [a0, a1, c] ∧ wordCheck ⟨a0, a1, c⟩ = (a, true) ∧
    (∀ s : State, ∃ t : State, exec (.argf a0 a1) s = .next t ∧ t.response = some ⟨.ok, .argFrame [a0, a1, c]⟩) ∧
    (∀ k0 k1 : Byte, commandFrame (k0 ++ k1) a = [k0, k1, a0, a1, c] ∧ bareCommandFrame (k0 ++ k1) = [k0, k1])

/-- R81: `crc8_step` on numbers: XOR the byte in, then eight times double and drop bit 8, with an XOR of 0x31 when the
value was 128 or more. -/
def Obligations.CrcStepIteration : Prop :=
  ∀ r b : Byte, crc8Step r b =
    (fun t : Byte => if 128 ≤ t.toNat then BitVec.ofNat 8 (2 * t.toNat % 256) ^^^ 0x31
      else BitVec.ofNat 8 (2 * t.toNat))^[8] (r ^^^ b)

/-- R80 and R82: the checksum is the CRC of the polynomial x^8 + x^5 + x^4 + 1: each byte step leaves the remainder of
(running value XOR byte) * x^8 divided by it, from the initial value 0xFF and with no final XOR. -/
def Obligations.ChecksumIsPolynomialCrc : Prop :=
  (∀ r b : Byte, ∃ q : Byte,
    ((r ^^^ b).setWidth 16 : BitVec 16) <<< 8 = generatorMultiple q ^^^ (crc8Step r b).setWidth 16) ∧
  computeChecksum [] = 0xFF ∧
  (∀ (s : List Byte) (b : Byte), computeChecksum (s ++ [b]) = crc8Step (computeChecksum s) b)

/-- The laws of 40_checksum_engine.md section 2 (b): composition, and the streamed form through the operations. -/
def Obligations.StreamedChecksumComposes : Prop :=
  (∀ s t : List Byte, computeChecksum (s ++ t) = t.foldl crc8Step (computeChecksum s)) ∧
  (∀ (bytes : List Byte) (s : State), ∃ t : State,
    execSeq (.crcinit :: bytes.map .crcupd) s = .next t ∧ t.regs = { s.regs with crc := computeChecksum bytes })

/-- The laws of 40_checksum_engine.md section 2 (c) and (d): a sequence validates against its own checksum, through
`CVAL` too, and the checksum of a sequence with its checksum appended is 0. -/
def Obligations.SelfConsistencyAndResidue : Prop :=
  (∀ b : List Byte, validate b (computeChecksum b) = true) ∧
  (∀ (b : List Byte) (s : State), ∃ t : State, exec (.cval b (computeChecksum b)) s = .next t ∧ t.regs.v = true) ∧
  (∀ s : List Byte, computeChecksum (s ++ [computeChecksum s]) = 0x00)

/-- The laws of 40_checksum_engine.md section 2 (e): the step is a bijection in either argument, one final byte gives
each checksum, and each checksum has exactly 256 two-byte preimages. -/
def Obligations.StepBijections : Prop :=
  (∀ b : Byte, Function.Bijective (fun r : Byte => crc8Step r b)) ∧
  (∀ r : Byte, Function.Bijective (fun b : Byte => crc8Step r b)) ∧
  (∀ (s : List Byte) (c : Byte), ∃ b : Byte, ∀ b' : Byte, computeChecksum (s ++ [b']) = c ↔ b' = b) ∧
  (∀ c : Byte, Nat.card { d : Byte × Byte // computeChecksum [d.1, d.2] = c } = 256)

/-- The laws of 40_checksum_engine.md section 2 (f): the table form, with the 256 entries 95_test_vectors.md lists. -/
def Obligations.TableFormAgrees : Prop :=
  crcTable.length = 256 ∧ crcTable.Nodup ∧ (∀ x : Byte, crcTable[x.toNat]? = some (crc8Step 0x00 x)) ∧
  (∀ r b : Byte, crc8Step r b = crc8StepByTable r b)

/-- Error detection on a response word, as 40_checksum_engine.md section 2 derives it: no single flipped bit of the 24
goes undetected, in `WCHK`'s verdict too; and two data values that share a checksum. -/
def Obligations.SingleBitErrorsDetected : Prop :=
  (∀ (w : RespWord) (k : Nat), k < 24 → wordValid w = true → wordValid (flipBit w k) = false) ∧
  (∀ (w : RespWord) (k : Nat) (s : State), k < 24 → wordValid w = true →
    ∃ t : State, exec (.wchk (flipBit w k)) s = .next t ∧ t.regs.v = false) ∧
  computeChecksum [0x00, 0x01] = 0xB0 ∧ computeChecksum [0x01, 0x30] = 0xB0

/-- R41 and R100: every multi-byte quantity is big-endian, and `decode_float` is a bijection between four bytes and the
32-bit patterns. -/
def Obligations.BigEndianAssembly : Prop :=
  (∀ b0 b1 : Byte, (half b0 b1).toNat = 256 * b0.toNat + b1.toNat ∧ highByte (half b0 b1) = b0 ∧
    lowByte (half b0 b1) = b1) ∧
  (∀ p0 p1 p2 p3 : Byte,
    (decodeFloat p0 p1 p2 p3).toNat = p0.toNat * 2 ^ 24 + p1.toNat * 2 ^ 16 + p2.toNat * 2 ^ 8 + p3.toNat ∧
    (decodeFloat p0 p1 p2 p3).extractLsb' 24 8 = p0 ∧ (decodeFloat p0 p1 p2 p3).extractLsb' 16 8 = p1 ∧
    (decodeFloat p0 p1 p2 p3).extractLsb' 8 8 = p2 ∧ (decodeFloat p0 p1 p2 p3).extractLsb' 0 8 = p3) ∧
  Function.Bijective (fun p : Byte × Byte × Byte × Byte => decodeFloat p.1 p.2.1 p.2.2.1 p.2.2.2)

/-- The round trip of 41_measurement_decoder.md section 1, for every pattern at bit level: the big-endian bytes of a
pattern, given to `FDEC` in wire order, put that pattern in the register chosen. -/
def Obligations.FloatRoundTrip : Prop :=
  ∀ (p : Pattern) (rd : FrReg) (s : State), ∃ p0 p1 p2 p3 : Byte, patternBytes p = [p0, p1, p2, p3] ∧
    decodeFloat p0 p1 p2 p3 = p ∧
    exec (.fdec rd p0 p1 p2 p3) s = .next (answered s (s.regs.setFr rd p) (.pattern p))

/-- R121: `ready_decode` is 1 exactly when the word is valid and its data is odd; the other fifteen data bits do not
count. -/
def Obligations.ReadyDecodeRule : Prop :=
  (∀ d0 d1 c : Byte, readyDecode ⟨d0, d1, c⟩ = true ↔
    computeChecksum [d0, d1] = c ∧ (256 * d0.toNat + d1.toNat) % 2 = 1) ∧
  (∀ v w : RespWord, wordValid v = true → wordValid w = true → v.d1.getLsbD 0 = w.d1.getLsbD 0 →
    readyDecode v = readyDecode w)

/-- R123 and R125: `meas_decode`, and that `MDEC`'s response is exactly it. -/
def Obligations.MeasDecodeRefinement : Prop :=
  (∀ w0 w1 w2 w3 w4 w5 : RespWord,
    (∀ w ∈ [w0, w1, w2, w3, w4, w5], validate [w.d0, w.d1] w.c = true) →
      measDecode w0 w1 w2 w3 w4 w5 = .ok { co2 := decodeFloat w0.d0 w0.d1 w1.d0 w1.d1
                                           temperature := decodeFloat w2.d0 w2.d1 w3.d0 w3.d1
                                           humidity := decodeFloat w4.d0 w4.d1 w5.d0 w5.d1 }) ∧
  (∀ w0 w1 w2 w3 w4 w5 : RespWord,
    (∃ w ∈ [w0, w1, w2, w3, w4, w5], validate [w.d0, w.d1] w.c = false) →
      measDecode w0 w1 w2 w3 w4 w5 = .error .checksumInvalid) ∧
  (∀ (w0 w1 w2 w3 w4 w5 : RespWord) (s : State), ∃ t : State, exec (.mdec w0 w1 w2 w3 w4 w5) s = .next t ∧
    match measDecode w0 w1 w2 w3 w4 w5 with
    | .ok m => t.response = some ⟨.ok, .triple m.co2 m.temperature m.humidity⟩ ∧ t.regs.fr0 = m.co2 ∧
        t.regs.fr1 = m.temperature ∧ t.regs.fr2 = m.humidity
    | .error e => t.response = some ⟨e.outcome, .empty⟩ ∧ t.regs.fr0 = s.regs.fr0 ∧ t.regs.fr1 = s.regs.fr1 ∧
        t.regs.fr2 = s.regs.fr2)

/-- R126 and R152: the two policies are kept apart, and only a requester that validates getters can refuse a getter's
word. -/
def Obligations.PoliciesNotMerged : Prop :=
  (∀ (w : RespWord) (s : State), ∃ t : State, ∃ r : Bool, exec (.rdyw w) s = .next t ∧
    t.response = some ⟨.ok, .ready r⟩ ∧ (wordValid w = false → r = false)) ∧
  (∀ (w0 w1 w2 w3 w4 w5 : RespWord) (s : State), (∃ w ∈ [w0, w1, w2, w3, w4, w5], wordValid w = false) →
    ∃ t : State, ∃ r : Response, exec (.mdec w0 w1 w2 w3 w4 w5) s = .next t ∧ t.response = some r ∧
      ∀ a b c : Pattern, r.result ≠ .triple a b c) ∧
  (∀ v : Bool, getterAccepts false v = true ∧ getterAccepts true v = v)

/-- R141: `ChecksumInvalid` comes from `MDEC` alone, with `V` = 0 and every `FR` register unwritten; a mismatch in
`CRCCHK`, `CVAL`, `WCHK` or `RDYW` is a value. -/
def Obligations.OnlyMdecRaisesChecksumInvalid : Prop :=
  (∀ (i : Instr) (s t : State) (r : Result), exec i s = .next t → t.response = some ⟨.checksumInvalid, r⟩ →
    ∃ w0 w1 w2 w3 w4 w5 : RespWord, i = .mdec w0 w1 w2 w3 w4 w5 ∧
      t.regs = { s.regs with crc := computeChecksum [w5.d0, w5.d1], data := half w5.d0 w5.d1, v := false }) ∧
  (∀ (c : Byte) (s : State), s.regs.crc ≠ c → ∃ t : State, exec (.crcchk c) s = .next t ∧
    t.response = some ⟨.ok, .verdict false⟩ ∧ t.regs.v = false) ∧
  (∀ (bytes : List Byte) (c : Byte) (s : State), computeChecksum bytes ≠ c → ∃ t : State,
    exec (.cval bytes c) s = .next t ∧ t.response = some ⟨.ok, .verdict false⟩ ∧ t.regs.v = false) ∧
  (∀ (w : RespWord) (s : State), wordValid w = false → ∃ t u : State,
    exec (.wchk w) s = .next t ∧ t.response = some ⟨.ok, .wordCheck (w.d0 ++ w.d1) false⟩ ∧ t.regs.v = false ∧
    exec (.rdyw w) s = .next u ∧ u.response = some ⟨.ok, .ready false⟩ ∧ u.regs.v = false ∧ u.regs.rdy = false)

/-- R140: every request ends with exactly one outcome, whose code and cause are these; a failure records no value. -/
def Obligations.OneOutcomePerRequest : Prop :=
  (ReplyOutcome.ok.code = 0 ∧ ReplyOutcome.checksumInvalid.code = 1 ∧ ReplyOutcome.illegalOp.code = 2 ∧
    ∀ o : ReplyOutcome, o.code ≠ 3) ∧
  (∀ (s : State) (f : Frame) (rest : List Input), s.inputs = .request f :: rest →
    ∃ t : State, ∃ r : Response, step s = .next t ∧ t.inputs = rest ∧ t.response = some r ∧
      (r.outcome ≠ .ok → r.result = .empty) ∧
      (r.outcome = .illegalOp ↔ ∀ i, decode f ≠ .ok i) ∧
      (r.outcome = .checksumInvalid ↔ ∃ w0 w1 w2 w3 w4 w5 : RespWord,
        decode f = .ok (.mdec w0 w1 w2 w3 w4 w5) ∧ ∃ w ∈ [w0, w1, w2, w3, w4, w5], wordValid w = false)) ∧
  (∀ f : Frame, (∀ i, decode f ≠ .ok i) ↔
    f = [] ∨ (∃ op rest, f = op :: rest ∧ op ∉ assignedOpcodes) ∨ ∃ n : Nat, requiredLength f = some n ∧ f.length ≠ n)

/-- R145: a 19-byte frame with opcode 0x30 ends `Ok` or `ChecksumInvalid`, one of any other length `IllegalOp`. -/
def Obligations.MeasurementFrameOutcomes : Prop :=
  (∀ (s : State) (tail : List Byte) (rest : List Input), s.inputs = .request (0x30 :: tail) :: rest →
    tail.length = 18 → ∃ t : State, ∃ r : Response, step s = .next t ∧ t.response = some r ∧
      (r.outcome = .ok ∨ r.outcome = .checksumInvalid)) ∧
  (∀ tail : List Byte, tail.length ≠ 18 → Rejected (0x30 :: tail)) ∧
  (∀ (w0 w1 w2 w3 w4 w5 v0 v1 v2 v3 v4 v5 : RespWord) (s : State),
    (∃ w ∈ [w0, w1, w2, w3, w4, w5], wordValid w = false) → (∃ v ∈ [v0, v1, v2, v3, v4, v5], wordValid v = false) →
      ∃ t u : State, exec (.mdec w0 w1 w2 w3 w4 w5) s = .next t ∧ exec (.mdec v0 v1 v2 v3 v4 v5) s = .next u ∧
        t.response = u.response)

/-- R21: who writes `CRC` and with what, and that only `CRCUPD` and `CRCCHK` read it. -/
def Obligations.CrcRegister : Prop :=
  (∀ (i : Instr) (s : State), ∃ t : State, exec i s = .next t ∧
    (i = .crcinit → t.regs.crc = 0xFF) ∧
    (∀ b, i = .crcupd b → t.regs.crc = crc8Step s.regs.crc b) ∧
    (∀ bytes, checkedBytes i = some bytes → t.regs.crc = computeChecksum bytes) ∧
    ((∃ c, i = .crcchk c) ∨ (∃ rd p0 p1 p2 p3, i = .fdec rd p0 p1 p2 p3) → t.regs.crc = s.regs.crc)) ∧
  (∀ (i : Instr) (x : Byte), (∀ b, i ≠ .crcupd b) → (∀ c, i ≠ .crcchk c) →
    Ignores i (fun s => s.setCrc x) (fun r => { r with crc := 0 }))

/-- R22: who writes `DATA` and with what, valid word or not, and that no operation reads it. -/
def Obligations.DataRegister : Prop :=
  (∀ (w : RespWord) (s : State), ∃ t u : State, exec (.wchk w) s = .next t ∧ exec (.rdyw w) s = .next u ∧
    t.regs.data.toNat = 256 * w.d0.toNat + w.d1.toNat ∧ u.regs.data = t.regs.data) ∧
  (∀ (a0 a1 : Byte) (s : State), ∃ t : State, exec (.argf a0 a1) s = .next t ∧
    t.regs.data.toNat = 256 * a0.toNat + a1.toNat) ∧
  (∀ (w0 w1 w2 w3 w4 w5 : RespWord) (s : State), ∃ t : State, exec (.mdec w0 w1 w2 w3 w4 w5) s = .next t ∧
    t.regs.data.toNat = 256 * w5.d0.toNat + w5.d1.toNat) ∧
  (∀ (i : Instr) (s : State), (∀ w, i ≠ .wchk w) → (∀ w, i ≠ .rdyw w) → (∀ a0 a1, i ≠ .argf a0 a1) →
    (∀ w0 w1 w2 w3 w4 w5, i ≠ .mdec w0 w1 w2 w3 w4 w5) → ∃ t : State, exec i s = .next t ∧
      t.regs.data = s.regs.data) ∧
  (∀ (i : Instr) (x : Half), Ignores i (fun s => s.setData x) (fun r => { r with data := 0 }))

/-- R23: who writes `V` and with what, and that no operation reads it. -/
def Obligations.VerdictRegister : Prop :=
  (∀ (c : Byte) (s : State), ∃ t : State, exec (.crcchk c) s = .next t ∧ (t.regs.v = true ↔ s.regs.crc = c)) ∧
  (∀ (bytes : List Byte) (c : Byte) (s : State), ∃ t : State, exec (.cval bytes c) s = .next t ∧
    (t.regs.v = true ↔ computeChecksum bytes = c)) ∧
  (∀ (w : RespWord) (s : State), ∃ t u : State, exec (.wchk w) s = .next t ∧ exec (.rdyw w) s = .next u ∧
    (t.regs.v = true ↔ computeChecksum [w.d0, w.d1] = w.c) ∧ u.regs.v = t.regs.v) ∧
  (∀ (w0 w1 w2 w3 w4 w5 : RespWord) (s : State), ∃ t : State, exec (.mdec w0 w1 w2 w3 w4 w5) s = .next t ∧
    (t.regs.v = true ↔ ∀ w ∈ [w0, w1, w2, w3, w4, w5], computeChecksum [w.d0, w.d1] = w.c)) ∧
  (∀ (i : Instr) (s : State), (i = .crcinit ∨ (∃ b, i = .crcupd b) ∨ (∃ bytes, i = .csum bytes) ∨
      (∃ a0 a1, i = .argf a0 a1) ∨ ∃ rd p0 p1 p2 p3, i = .fdec rd p0 p1 p2 p3) →
    ∃ t : State, exec i s = .next t ∧ t.regs.v = s.regs.v) ∧
  (∀ (i : Instr) (x : Bool), Ignores i (fun s => s.setV x) (fun r => { r with v := false }))

/-- R24: `RDY` is written by `RDYW` alone, 1 for "ready" and 0 for both kinds of "not ready", and read by none. -/
def Obligations.ReadyRegister : Prop :=
  (∀ (w : RespWord) (s : State), ∃ t : State, exec (.rdyw w) s = .next t ∧
    (t.regs.rdy = true ↔ wordValid w = true ∧ w.d1.getLsbD 0 = true)) ∧
  (∀ (i : Instr) (s : State), (∀ w, i ≠ .rdyw w) → ∃ t : State, exec i s = .next t ∧ t.regs.rdy = s.regs.rdy) ∧
  (∀ (i : Instr) (x : Bool), Ignores i (fun s => s.setRdy x) (fun r => { r with rdy := false }))

/-- R29: the float registers are written by `FDEC`, the one it selects, and by `MDEC`, all three together and only when
all six words validate; no operation reads one; `rd` = 3 is reserved. -/
def Obligations.FloatRegisters : Prop :=
  (∀ (rd q : FrReg) (p0 p1 p2 p3 : Byte) (s : State), ∃ t : State, exec (.fdec rd p0 p1 p2 p3) s = .next t ∧
    t.regs.fr q = if q = rd then decodeFloat p0 p1 p2 p3 else s.regs.fr q) ∧
  (∀ (w0 w1 w2 w3 w4 w5 : RespWord) (s : State), ∃ t : State, exec (.mdec w0 w1 w2 w3 w4 w5) s = .next t ∧
    if ∀ w ∈ [w0, w1, w2, w3, w4, w5], wordValid w = true then
      t.regs.fr .co2 = decodeFloat w0.d0 w0.d1 w1.d0 w1.d1 ∧ t.regs.fr .temp = decodeFloat w2.d0 w2.d1 w3.d0 w3.d1 ∧
        t.regs.fr .hum = decodeFloat w4.d0 w4.d1 w5.d0 w5.d1
    else ∀ q : FrReg, t.regs.fr q = s.regs.fr q) ∧
  (∀ (i : Instr) (s : State), (∀ rd p0 p1 p2 p3, i ≠ .fdec rd p0 p1 p2 p3) →
    (∀ w0 w1 w2 w3 w4 w5, i ≠ .mdec w0 w1 w2 w3 w4 w5) → ∃ t : State, exec i s = .next t ∧
      ∀ q : FrReg, t.regs.fr q = s.regs.fr q) ∧
  (∀ (i : Instr) (rd : FrReg) (x : Pattern), Ignores i (fun s => s.setFr rd x) (fun r => r.setFr rd 0)) ∧
  (∀ rest : List Byte, Rejected (0x23 :: rest))

/-- R32: the complete write set of every operation, `MDEC` with both outcomes. -/
def Obligations.RegisterWriteTable : Prop :=
  ∀ (i : Instr) (s : State), ∃ t : State, exec i s = .next t ∧ t.inputs = s.inputs ∧
    t.regs = match i with
      | .crcinit => { s.regs with crc := 0xFF }
      | .crcupd b => { s.regs with crc := crc8Step s.regs.crc b }
      | .crcchk c => { s.regs with v := s.regs.crc == c }
      | .csum bytes => { s.regs with crc := computeChecksum bytes }
      | .cval bytes c => { s.regs with crc := computeChecksum bytes, v := computeChecksum bytes == c }
      | .wchk w =>
        { s.regs with crc := computeChecksum [w.d0, w.d1], v := computeChecksum [w.d0, w.d1] == w.c,
                      data := w.d0 ++ w.d1 }
      | .argf a0 a1 => { s.regs with crc := computeChecksum [a0, a1], data := a0 ++ a1 }
      | .rdyw w =>
        { s.regs with crc := computeChecksum [w.d0, w.d1], v := computeChecksum [w.d0, w.d1] == w.c,
                      rdy := (computeChecksum [w.d0, w.d1] == w.c) && w.d1.getLsbD 0, data := w.d0 ++ w.d1 }
      | .fdec .fr0 p0 p1 p2 p3 => { s.regs with fr0 := p0 ++ p1 ++ p2 ++ p3 }
      | .fdec .fr1 p0 p1 p2 p3 => { s.regs with fr1 := p0 ++ p1 ++ p2 ++ p3 }
      | .fdec .fr2 p0 p1 p2 p3 => { s.regs with fr2 := p0 ++ p1 ++ p2 ++ p3 }
      | .mdec w0 w1 w2 w3 w4 w5 =>
        if [w0, w1, w2, w3, w4, w5].all wordValid then
          { s.regs with crc := computeChecksum [w5.d0, w5.d1], v := true, data := w5.d0 ++ w5.d1,
                        fr0 := w0.d0 ++ w0.d1 ++ w1.d0 ++ w1.d1, fr1 := w2.d0 ++ w2.d1 ++ w3.d0 ++ w3.d1,
                        fr2 := w4.d0 ++ w4.d1 ++ w5.d0 ++ w5.d1 }
        else { s.regs with crc := computeChecksum [w5.d0, w5.d1], v := false, data := w5.d0 ++ w5.d1 }

/-- R26 and R27: every register shows on its own port and the two flags show on `STATUS`, which is 0x00 after reset;
a request changes registers only as the meaning of the operation it decodes to says. -/
def Obligations.StatusView : Prop :=
  (∀ s : State, (portsOf s).crc = s.regs.crc ∧ (portsOf s).data = s.regs.data ∧ (portsOf s).fr0 = s.regs.fr0 ∧
    (portsOf s).fr1 = s.regs.fr1 ∧ (portsOf s).fr2 = s.regs.fr2 ∧ ((portsOf s).v = 1 ↔ s.regs.v = true) ∧
    ((portsOf s).rdy = 1 ↔ s.regs.rdy = true)) ∧
  (∀ s : State, (portsOf s).status.getLsbD 0 = s.regs.v ∧ (portsOf s).status.getLsbD 1 = s.regs.rdy ∧
    (portsOf s).status.toNat < 4) ∧ (portsOf State.reset).status = 0x00 ∧
  (∀ (s t : State) (f : Frame) (rest : List Input), s.inputs = .request f :: rest → step s = .next t →
    t.regs ≠ s.regs → ∃ i : Instr, decode f = .ok i ∧ exec i { s with inputs := rest } = .next t)

/-- Purity, as 20_memory.md section 4 states it: from the same `CRC` a request is answered the same, and the answer of
every operation but `CRCUPD` and `CRCCHK` does not depend on the prior state at all. -/
def Obligations.ResultIndependentOfPriorState : Prop :=
  (∀ (i : Instr) (s s' : State), s.regs.crc = s'.regs.crc → ∃ t t' : State, exec i s = .next t ∧
    exec i s' = .next t' ∧ t.response = t'.response) ∧
  (∀ (i : Instr) (s s' : State), (∀ b, i ≠ .crcupd b) → (∀ c, i ≠ .crcchk c) → ∃ t t' : State,
    exec i s = .next t ∧ exec i s' = .next t' ∧ t.response = t'.response)

/-- An invariant of every step: a value the most recent response returns still shows on its port (the pattern of an
`FDEC` on one of the three float ports: the response does not say which), a failure delivered no value, and `V` is 0
after a failed measurement (10_state.md section 5, 60_exceptions.md section 4). It rests on two choices of the model: the
response stands in State and a reset clears it (log entry 2), and a step with nothing to take keeps it (log entry 3). -/
def Obligations.ResponseAgreesWithPorts : Prop :=
  ∀ s t : State, Coherent s → step s = .next t → Coherent t

/-- The invariant of `ResponseAgreesWithPorts` holds at reset, because nothing has been answered then: that State.reset
holds no response is the model's choice (log entry 2), and the spec says nothing of one. -/
def Obligations.ResponseAgreesAtReset : Prop := Coherent State.reset

/-- Nothing of the register state is out of reach: every one of the 2^122 register states is left by some sequence of
well-formed operations after reset (a consequence of the operation rules and of the step's bijection). -/
def Obligations.EveryRegisterStateReachable : Prop :=
  ∀ r : Regs, ∃ is : List Instr, (∀ i ∈ is, i.wellFormed = true) ∧
    ∃ t : State, execSeq is State.reset = .next t ∧ t.regs = r

/-- The streamed checksum owns `CRC` (70_reset_and_hazards.md section 3): with only `CRCUPD`, `CRCCHK` and `FDEC` after a
`CRCINIT`, `CRC` ends as the checksum of the bytes streamed; without the `CRCINIT` it continues from what was there. -/
def Obligations.StreamOwnsCrc : Prop :=
  ∀ (is : List Instr) (s : State), is.all keepsStream = true →
    (∃ t : State, execSeq (.crcinit :: is) s = .next t ∧ t.regs.crc = computeChecksum (streamedBytes is)) ∧
    (∃ t : State, execSeq is s = .next t ∧ t.regs.crc = (streamedBytes is).foldl crc8Step s.regs.crc)

/-- R51: requests are served one at a time, each to completion, in the order issued, each from the registers the one
before it left; what is issued after them is untouched. -/
def Obligations.RequestsServedInOrder : Prop :=
  ∀ (fs : List Frame) (rest : List Input) (s : State), s.inputs = fs.map .request ++ rest →
    Sys2Proof.core.run fs.length s = serveSeq fs { s with inputs := rest }

/-- R72: the pseudo-operations leave what their names promise. -/
def Obligations.PseudoOperations : Prop :=
  (∀ (bytes : List Byte) (s : State), ∃ t : State, execSeq (expand (.computeChecksum bytes)) s = .next t ∧
    t.response = some ⟨.ok, .checksum (computeChecksum bytes)⟩ ∧ t.regs.crc = computeChecksum bytes) ∧
  (∀ (bytes : List Byte) (c : Byte) (s : State), ∃ t : State, execSeq (expand (.validate bytes c)) s = .next t ∧
    t.response = some ⟨.ok, .verdict (validate bytes c)⟩ ∧ t.regs.v = validate bytes c) ∧
  (∀ (rd : FrReg) (p0 p1 p2 p3 : Byte) (s : State), ∃ t : State,
    execSeq (expand (.decodeFloat rd p0 p1 p2 p3)) s = .next t ∧ t.regs.fr rd = decodeFloat p0 p1 p2 p3) ∧
  (∀ (v : Half) (s : State), ∃ t : State, execSeq (expand (.argw v)) s = .next t ∧
    t.response = some ⟨.ok, .argFrame (argFrame v)⟩) ∧
  (∀ (bytes : List Byte) (s : State), ∃ t : State, execSeq (expand (.csums bytes)) s = .next t ∧
    t.regs.crc = computeChecksum bytes) ∧
  (∀ (bytes : List Byte) (c : Byte) (s : State), ∃ t : State, execSeq (expand (.cvals bytes c)) s = .next t ∧
    t.regs.v = validate bytes c) ∧
  (∀ (rd : FrReg) (w0 w1 : RespWord) (s : State), ValidPair w0 w1 → ∃ t : State,
    runFdecv rd w0 w1 s = .next t ∧ t.regs.fr rd = decodeFloat w0.d0 w0.d1 w1.d0 w1.d1) ∧
  (∀ (rd : FrReg) (w0 w1 : RespWord) (s : State), ¬ ValidPair w0 w1 → ∃ t : State,
    runFdecv rd w0 w1 s = .next t ∧ ∀ q : FrReg, t.regs.fr q = s.regs.fr q)

/-- A failed request puts the block into no error state (60_exceptions.md section 5): the next frame is served from the
registers the failing one left, as any other. -/
def Obligations.NextFrameAfterFailure : Prop :=
  (∀ (s : State) (f g : Frame) (rest : List Input), s.inputs = .request f :: .request g :: rest →
    (∀ i, decode f ≠ .ok i) → Sys2Proof.core.run 2 s = serve g { s with inputs := rest }) ∧
  (∀ (s : State) (f g : Frame) (rest : List Input) (w0 w1 w2 w3 w4 w5 : RespWord),
    s.inputs = .request f :: .request g :: rest → decode f = .ok (.mdec w0 w1 w2 w3 w4 w5) →
    (∃ w ∈ [w0, w1, w2, w3, w4, w5], wordValid w = false) →
    Sys2Proof.core.run 2 s = serve g
      { s with inputs := rest
               regs := { s.regs with crc := computeChecksum [w5.d0, w5.d1], data := half w5.d0 w5.d1, v := false } })

/-- The source's scenario S7 (95_test_vectors.md section 1.2): the six words decode to the numbers 850.5, 23.75 and
41.0, by the reading of a pattern that the spec takes from general knowledge (log entry 8). -/
def Obligations.MeasurementScenario : Prop :=
  ∀ s : State, ∃ t : State,
    exec (.mdec ⟨0x44, 0x54, 0x31⟩ ⟨0xA0, 0x00, 0x7E⟩ ⟨0x41, 0xBE, 0x5C⟩ ⟨0x00, 0x00, 0x81⟩ ⟨0x42, 0x24, 0x93⟩
      ⟨0x00, 0x00, 0x81⟩) s = .next t ∧ DeliversMeasurement t ∧ floatValue t.regs.fr0 = some (1701 / 2) ∧
    floatValue t.regs.fr1 = some (95 / 4) ∧ floatValue t.regs.fr2 = some 41
end

