-- ==== Sys2Proof/Laws/Checksum.lean ====
section
/-! SUPPORT. Small lemmas about the checksum functions. -/

namespace Sys2Proof.Machine

/-- No final XOR: the checksum is the bare fold (R82). -/
theorem computeChecksum_eq_foldl (s : List Byte) : computeChecksum s = s.foldl crc8Step 0xFF :=
  BitVec.xor_zero

/-- `validate` is equality of checksums (R83). -/
theorem validate_eq_true_iff (s : List Byte) (c : Byte) : validate s c = true ↔ computeChecksum s = c := by
  simp only [validate, beq_iff_eq]

/-- The verdict of one comparison is equality (R23). -/
theorem checksumMatches_eq_true_iff (a b : Byte) : checksumMatches a b = true ↔ a = b := by
  simp only [checksumMatches, beq_iff_eq]

/-- One iteration is linear over XOR. -/
theorem crcShift_xor (a b : Byte) : crcShift (a ^^^ b) = crcShift a ^^^ crcShift b := by
  simp only [crcShift, BitVec.getLsbD_xor, BitVec.shiftLeft_xor_distrib]
  cases a.getLsbD 7 <;> cases b.getLsbD 7 <;> simp only [Bool.xor_false, Bool.xor_true, Bool.not_false, Bool.not_true,
    if_true, if_false, Bool.false_eq_true, BitVec.xor_assoc] <;> ac_nf
  rw [← BitVec.xor_assoc Config.crcPoly, BitVec.xor_self, BitVec.zero_xor]

end Sys2Proof.Machine
end

