-- ==== Sys2Proof/Laws/PerInstr.lean ====
section
/-! SUPPORT. Statements made of every instruction, one lemma per constructor. -/

namespace Sys2Proof.Laws.EncodedLength

/-- An encoded operation has exactly the length its opcode requires (R61, R66). -/
def Statement (i : Instr) : Prop :=
  i.wellFormed = true → requiredLength (encode i) = some (encode i).length

theorem crcinit : Statement .crcinit := fun _ => rfl

theorem crcupd (b : Byte) : Statement (.crcupd b) := fun _ => rfl

theorem crcchk (c : Byte) : Statement (.crcchk c) := fun _ => rfl

/-- A sequence's length survives the length byte. -/
theorem length_byte {s : List Byte} (h : s.length ≤ Config.vlenMax) :
    (BitVec.ofNat 8 s.length).toNat = s.length := by
  rw [BitVec.toNat_ofNat]
  exact Nat.mod_eq_of_lt (Nat.lt_succ_of_le h)

theorem csum (s : List Byte) : Statement (.csum s) := by
  intro h
  have hn := length_byte (of_decide_eq_true h)
  show some (2 + (BitVec.ofNat 8 s.length).toNat) = some (s.length + 1 + 1)
  rw [hn]
  congr 1
  omega

theorem cval (s : List Byte) (c : Byte) : Statement (.cval s c) := by
  intro h
  have hn := length_byte (of_decide_eq_true h)
  show some (3 + (BitVec.ofNat 8 s.length).toNat) = some ((s ++ [c]).length + 1 + 1)
  rw [hn, List.length_append]
  congr 1
  simp only [List.length_cons, List.length_nil]
  omega

theorem wchk (w : RespWord) : Statement (.wchk w) := fun _ => rfl

theorem argf (a0 a1 : Byte) : Statement (.argf a0 a1) := fun _ => rfl

theorem rdyw (w : RespWord) : Statement (.rdyw w) := fun _ => rfl

theorem fdec (rd : FrReg) (p0 p1 p2 p3 : Byte) : Statement (.fdec rd p0 p1 p2 p3) := by
  intro _
  cases rd <;> rfl

theorem mdec (w0 w1 w2 w3 w4 w5 : RespWord) : Statement (.mdec w0 w1 w2 w3 w4 w5) := fun _ => rfl

end Sys2Proof.Laws.EncodedLength
end

