-- ==== Sys2Proof/Laws/Encoding.lean ====
section
/-! SUPPORT. Small lemmas about well-formedness and the length byte. -/

namespace Sys2Proof

/-- A `CSUM` is well formed exactly when the length byte can hold its length (R65). -/
theorem Instr.wellFormed_csum (s : List Byte) : (Instr.csum s).wellFormed = true ↔ s.length ≤ 255 :=
  decide_eq_true_iff

/-- A `CVAL` is well formed exactly when the length byte can hold its length (R65). -/
theorem Instr.wellFormed_cval (s : List Byte) (c : Byte) : (Instr.cval s c).wellFormed = true ↔ s.length ≤ 255 :=
  decide_eq_true_iff

/-- A register's selector names it again. -/
theorem FrReg.ofSelector_selector (rd : FrReg) : FrReg.ofSelector rd.selector = some rd := by
  cases rd <;> rfl

end Sys2Proof
end

