-- ==== Sys2Proof/Laws/State.lean ====
section
/-! SUPPORT. What each register write leaves in each field: one lemma per field per update. -/

namespace Sys2Proof.Machine

@[simp] theorem State.setCrc_crc (s : State) (c : Byte) : (s.setCrc c).regs.crc = c := rfl
@[simp] theorem State.setCrc_v (s : State) (c : Byte) : (s.setCrc c).regs.v = s.regs.v := rfl
@[simp] theorem State.setCrc_rdy (s : State) (c : Byte) : (s.setCrc c).regs.rdy = s.regs.rdy := rfl
@[simp] theorem State.setCrc_data (s : State) (c : Byte) : (s.setCrc c).regs.data = s.regs.data := rfl
@[simp] theorem State.setCrc_fr0 (s : State) (c : Byte) : (s.setCrc c).regs.fr0 = s.regs.fr0 := rfl
@[simp] theorem State.setCrc_fr1 (s : State) (c : Byte) : (s.setCrc c).regs.fr1 = s.regs.fr1 := rfl
@[simp] theorem State.setCrc_fr2 (s : State) (c : Byte) : (s.setCrc c).regs.fr2 = s.regs.fr2 := rfl
@[simp] theorem State.setCrc_inputs (s : State) (c : Byte) : (s.setCrc c).inputs = s.inputs := rfl
@[simp] theorem State.setCrc_response (s : State) (c : Byte) : (s.setCrc c).response = s.response := rfl

@[simp] theorem State.setV_crc (s : State) (b : Bool) : (s.setV b).regs.crc = s.regs.crc := rfl
@[simp] theorem State.setV_v (s : State) (b : Bool) : (s.setV b).regs.v = b := rfl
@[simp] theorem State.setV_rdy (s : State) (b : Bool) : (s.setV b).regs.rdy = s.regs.rdy := rfl
@[simp] theorem State.setV_data (s : State) (b : Bool) : (s.setV b).regs.data = s.regs.data := rfl
@[simp] theorem State.setV_fr0 (s : State) (b : Bool) : (s.setV b).regs.fr0 = s.regs.fr0 := rfl
@[simp] theorem State.setV_fr1 (s : State) (b : Bool) : (s.setV b).regs.fr1 = s.regs.fr1 := rfl
@[simp] theorem State.setV_fr2 (s : State) (b : Bool) : (s.setV b).regs.fr2 = s.regs.fr2 := rfl
@[simp] theorem State.setV_inputs (s : State) (b : Bool) : (s.setV b).inputs = s.inputs := rfl
@[simp] theorem State.setV_response (s : State) (b : Bool) : (s.setV b).response = s.response := rfl

@[simp] theorem State.setRdy_crc (s : State) (b : Bool) : (s.setRdy b).regs.crc = s.regs.crc := rfl
@[simp] theorem State.setRdy_v (s : State) (b : Bool) : (s.setRdy b).regs.v = s.regs.v := rfl
@[simp] theorem State.setRdy_rdy (s : State) (b : Bool) : (s.setRdy b).regs.rdy = b := rfl
@[simp] theorem State.setRdy_data (s : State) (b : Bool) : (s.setRdy b).regs.data = s.regs.data := rfl
@[simp] theorem State.setRdy_fr0 (s : State) (b : Bool) : (s.setRdy b).regs.fr0 = s.regs.fr0 := rfl
@[simp] theorem State.setRdy_fr1 (s : State) (b : Bool) : (s.setRdy b).regs.fr1 = s.regs.fr1 := rfl
@[simp] theorem State.setRdy_fr2 (s : State) (b : Bool) : (s.setRdy b).regs.fr2 = s.regs.fr2 := rfl
@[simp] theorem State.setRdy_inputs (s : State) (b : Bool) : (s.setRdy b).inputs = s.inputs := rfl
@[simp] theorem State.setRdy_response (s : State) (b : Bool) : (s.setRdy b).response = s.response := rfl

@[simp] theorem State.setData_crc (s : State) (d : Half) : (s.setData d).regs.crc = s.regs.crc := rfl
@[simp] theorem State.setData_v (s : State) (d : Half) : (s.setData d).regs.v = s.regs.v := rfl
@[simp] theorem State.setData_rdy (s : State) (d : Half) : (s.setData d).regs.rdy = s.regs.rdy := rfl
@[simp] theorem State.setData_data (s : State) (d : Half) : (s.setData d).regs.data = d := rfl
@[simp] theorem State.setData_fr0 (s : State) (d : Half) : (s.setData d).regs.fr0 = s.regs.fr0 := rfl
@[simp] theorem State.setData_fr1 (s : State) (d : Half) : (s.setData d).regs.fr1 = s.regs.fr1 := rfl
@[simp] theorem State.setData_fr2 (s : State) (d : Half) : (s.setData d).regs.fr2 = s.regs.fr2 := rfl
@[simp] theorem State.setData_inputs (s : State) (d : Half) : (s.setData d).inputs = s.inputs := rfl
@[simp] theorem State.setData_response (s : State) (d : Half) : (s.setData d).response = s.response := rfl

@[simp] theorem State.setFr_crc (s : State) (rd : FrReg) (p : Pattern) :
    (s.setFr rd p).regs.crc = s.regs.crc := by cases rd <;> rfl
@[simp] theorem State.setFr_v (s : State) (rd : FrReg) (p : Pattern) :
    (s.setFr rd p).regs.v = s.regs.v := by cases rd <;> rfl
@[simp] theorem State.setFr_rdy (s : State) (rd : FrReg) (p : Pattern) :
    (s.setFr rd p).regs.rdy = s.regs.rdy := by cases rd <;> rfl
@[simp] theorem State.setFr_data (s : State) (rd : FrReg) (p : Pattern) :
    (s.setFr rd p).regs.data = s.regs.data := by cases rd <;> rfl
@[simp] theorem State.setFr_inputs (s : State) (rd : FrReg) (p : Pattern) : (s.setFr rd p).inputs = s.inputs := rfl
@[simp] theorem State.setFr_response (s : State) (rd : FrReg) (p : Pattern) : (s.setFr rd p).response = s.response := rfl

@[simp] theorem State.setFr_regs (s : State) (rd : FrReg) (p : Pattern) :
    (s.setFr rd p).regs = s.regs.setFr rd p := rfl

@[simp] theorem Regs.fr_fr0 (r : Regs) : r.fr .fr0 = r.fr0 := rfl
@[simp] theorem Regs.fr_fr1 (r : Regs) : r.fr .fr1 = r.fr1 := rfl
@[simp] theorem Regs.fr_fr2 (r : Regs) : r.fr .fr2 = r.fr2 := rfl

/-- A float register reads as last written; the other two keep their patterns. -/
theorem Regs.fr_setFr (r : Regs) (rd q : FrReg) (p : Pattern) :
    (r.setFr rd p).fr q = if q = rd then p else r.fr q := by
  cases rd <;> cases q <;> rfl

@[simp] theorem Regs.fr_setFr_self (r : Regs) (rd : FrReg) (p : Pattern) : (r.setFr rd p).fr rd = p := by
  cases rd <;> rfl

end Sys2Proof.Machine
end

