-- ==== Sys2Proof/Laws/Ops.lean ====
section
/-! SUPPORT. What each shared operation can do, said once: the provers cite these instead of unfolding. -/

namespace Sys2Proof.Machine

/-- Completing answers a next state: the same registers and inputs, the response `Ok` with the result. -/
theorem complete_eq (r : Result) (s : State) : complete r s = .next { s with response := some ⟨.ok, r⟩ } := rfl

theorem complete_next_iff (r : Result) (s t : State) :
    complete r s = .next t ↔ t = { s with response := some ⟨.ok, r⟩ } := by
  rw [complete_eq]
  exact ⟨fun h => (Host.Outcome.next.inj h).symm, fun h => h ▸ rfl⟩

/-- Taking an exception answers a next state: the same registers and inputs, the exception and no result. -/
theorem takeException_eq (e : Exc) (s : State) :
    takeException e s = .next { s with response := some ⟨e.outcome, .empty⟩ } := rfl

theorem takeException_next_iff (e : Exc) (s t : State) :
    takeException e s = .next t ↔ t = { s with response := some ⟨e.outcome, .empty⟩ } := by
  rw [takeException_eq]
  exact ⟨fun h => (Host.Outcome.next.inj h).symm, fun h => h ▸ rfl⟩

@[simp] theorem andThen_next (t : State) (k : State → Host.Outcome State Fault Refusal) :
    andThen (.next t) k = k t := rfl

/-- Examining a word writes its checksum and its data, and nothing else. -/
theorem examineWord_eq (w : RespWord) (s : State) :
    examineWord w s =
      { s with regs := { s.regs with crc := computeChecksum [w.d0, w.d1], data := half w.d0 w.d1 } } := rfl

/-- A second examination overwrites all that the first wrote. -/
theorem examineWord_examineWord (w w' : RespWord) (s : State) :
    examineWord w (examineWord w' s) = examineWord w s := rfl

/-- The verdict on an examined word is `validate` of it. -/
theorem checksumMatches_examineWord (w : RespWord) (s : State) :
    checksumMatches (examineWord w s).regs.crc w.c = wordValid w := rfl

/-- The loop's verdict is the conjunction over all the words, with no early exit. -/
theorem examineWords_fst (ws : List RespWord) (all : Bool) (s : State) :
    (examineWords ws all s).1 = (all && ws.all wordValid) := by
  induction ws generalizing all s with
  | nil => simp [examineWords]
  | cons w ws ih => simp only [examineWords, ih, checksumMatches_examineWord, List.all_cons, Bool.and_assoc]

/-- The loop leaves what the examination of the last word alone leaves. -/
theorem examineWords_snd (ws : List RespWord) (w : RespWord) (all : Bool) (s : State) :
    (examineWords (ws ++ [w]) all s).2 = examineWord w s := by
  induction ws generalizing all s with
  | nil => rfl
  | cons w' ws ih => exact ih _ _

/-- The measurement operation as one equation: word 5 stands in `CRC` and `DATA`, the six verdicts in `V`, and the
floats are written when all six words are valid. -/
theorem execMdec_eq (w0 w1 w2 w3 w4 w5 : RespWord) (s : State) :
    execMdec w0 w1 w2 w3 w4 w5 s =
      let ok := [w0, w1, w2, w3, w4, w5].all wordValid
      let s1 := (examineWord w5 s).setV ok
      let s2 := ((s1.setFr .fr0 (pattern w0.d0 w0.d1 w1.d0 w1.d1)).setFr .fr1
        (pattern w2.d0 w2.d1 w3.d0 w3.d1)).setFr .fr2 (pattern w4.d0 w4.d1 w5.d0 w5.d1)
      if ok then
        .next { s2 with response := some ⟨.ok, .triple s2.regs.fr0 s2.regs.fr1 s2.regs.fr2⟩ }
      else .next { s1 with response := some ⟨.checksumInvalid, .empty⟩ } := by
  have h1 := examineWords_fst [w0, w1, w2, w3, w4, w5] true s
  have h2 := examineWords_snd [w0, w1, w2, w3, w4] w5 true s
  simp only [Bool.true_and] at h1
  simp only [List.cons_append, List.nil_append] at h2
  simp only [execMdec, h1, h2]
  rfl

/-- A frame the decoder accepts is the operation it encodes. -/
theorem serve_ok {f : Frame} {i : Instr} (h : decode f = .ok i) (s : State) : serve f s = exec i s := by
  simp only [serve, h]

/-- A frame the decoder refuses is `IllegalOp`. -/
theorem serve_error {f : Frame} {e : DecodeError} (h : decode f = .error e) (s : State) :
    serve f s = .next { s with response := some ⟨.illegalOp, .empty⟩ } := by
  simp only [serve, h]
  rfl

/-- Everything a step can do: nothing to take, a frame to serve, or a reset. -/
theorem step_eq (s : State) :
    step s = match s.inputs with
      | [] => .next s
      | .request f :: rest => serve f { s with inputs := rest }
      | .reset :: rest => .next { State.reset with inputs := rest } := by
  unfold step
  split
  · next h => simp only [h]; rfl
  · next x rest h => cases x <;> simp only [h] <;> rfl

end Sys2Proof.Machine
end

