-- ==== Sys2Proof/Machine/Assembler.lean ====
section
/-! DEFINITION. The textual form of the operations (30_encoding.md R71), from text to request frames. -/

namespace Sys2Proof.Machine

/-- Text up to the `;` that starts a comment (R71). -/
def stripComment (cs : List Char) : List Char := cs.takeWhile (· != ';')

/-- Spaces and tabs separate, and are dropped at both ends (log entry 9). -/
def isBlank (c : Char) : Bool := c == ' ' || c == '\t'

/-- The text without blanks at its ends. -/
def trimBlanks (cs : List Char) : List Char :=
  ((cs.dropWhile isBlank).reverse.dropWhile isBlank).reverse

/-- The parts of a text between the separators. -/
def splitAtSep (sep : Char) : List Char → List (List Char)
  | [] => [[]]
  | c :: cs =>
    if c = sep then [] :: splitAtSep sep cs
    else
      match splitAtSep sep cs with
      | [] => [[c]]
      | part :: parts => (c :: part) :: parts

/-- A hexadecimal digit; both cases of A to F are read (log entry 9). -/
def hexDigit (c : Char) : Option Nat :=
  if 48 ≤ c.toNat ∧ c.toNat ≤ 57 then some (c.toNat - 48)
  else if 65 ≤ c.toNat ∧ c.toNat ≤ 70 then some (c.toNat - 55)
  else if 97 ≤ c.toNat ∧ c.toNat ≤ 102 then some (c.toNat - 87)
  else none

/-- A byte is two hexadecimal digits after `0x` (R71). -/
def parseByte : List Char → Option Byte
  | ['0', 'x', h, l] =>
    match hexDigit h, hexDigit l with
    | some a, some b => some (BitVec.ofNat 8 (16 * a + b))
    | _, _ => none
  | _ => none

/-- All the operands must be bytes. -/
def allBytes : List (List Char) → Option (List Byte)
  | [] => some []
  | part :: parts =>
    match parseByte (trimBlanks part), allBytes parts with
    | some b, some bs => some (b :: bs)
    | _, _ => none

/-- Operands separated by commas; no text is no operand (R71). -/
def parseBytes (cs : List Char) : Option (List Byte) :=
  if (trimBlanks cs).isEmpty then some [] else allBytes (splitAtSep ',' cs)

/-- The register of `FDEC`, by number or by alias (R71). -/
def parseRegister (cs : List Char) : Option FrReg :=
  if cs = "FR0".toList ∨ cs = "CO2".toList then some .fr0
  else if cs = "FR1".toList ∨ cs = "TEMP".toList then some .fr1
  else if cs = "FR2".toList ∨ cs = "HUM".toList then some .fr2
  else none

/-- The frame, if the decoder accepts it. -/
def acceptedFrame (f : Frame) : Option Frame :=
  match decode f with
  | .ok _ => some f
  | .error _ => none

/-- The frame of a byte sequence with its length byte counted by the assembler (R71). -/
def sequenceFrame (op : Byte) (s tail : List Byte) : Option Frame :=
  if s.length ≤ Config.vlenMax then acceptedFrame (op :: BitVec.ofNat 8 s.length :: (s ++ tail)) else none

/-- The operands of `FDEC`: a register, then four bytes (R71). -/
def assembleFdec (ops : List Char) : Option Frame :=
  match splitAtSep ',' ops with
  | reg :: parts =>
    match parseRegister (trimBlanks reg), allBytes parts with
    | some rd, some bytes => acceptedFrame ((0x20 ||| rd.selector.setWidth 8) :: bytes)
    | _, _ => none
  | [] => none

/-- The operands of `CVAL`: the bytes, a colon, the received checksum (R71). -/
def assembleCval (ops : List Char) : Option Frame :=
  match splitAtSep ':' ops with
  | [before, after] =>
    match parseBytes before, parseBytes after with
    | some s, some [c] => sequenceFrame 0x05 s [c]
    | _, _ => none
  | _ => none

/-- The operations whose text is the mnemonic and their operand bytes, with their opcode (R62, R71). -/
def plainOpcodes : List (String × Byte) :=
  [("CRCINIT", 0x01), ("CRCUPD", 0x02), ("CRCCHK", 0x03), ("WCHK", 0x10), ("ARGF", 0x11), ("RDYW", 0x12),
   ("MDEC", 0x30)]

/-- One operation's text to its frame (the table of R71). -/
def assembleOp (mnemonic ops : List Char) : Option Frame :=
  if mnemonic = "CSUM".toList then (parseBytes ops).bind (fun s => sequenceFrame 0x04 s [])
  else if mnemonic = "CVAL".toList then assembleCval ops
  else if mnemonic = "FDEC".toList then assembleFdec ops
  else
    match plainOpcodes.find? (fun row => row.1.toList == mnemonic), parseBytes ops with
    | some row, some bytes => acceptedFrame (row.2 :: bytes)
    | _, _ => none

/-- One line: no frame for a blank or comment line, one for an operation, `none` for text that is neither (R71). -/
def assembleLine (line : List Char) : Option (List Frame) :=
  let text := trimBlanks (stripComment line)
  if text.isEmpty then some []
  else
    (assembleOp (text.takeWhile (fun c => !isBlank c)) (text.dropWhile (fun c => !isBlank c))).map (fun f => [f])

/-- Lines in order. -/
def assembleLines : List (List Char) → Option (List Frame)
  | [] => some []
  | line :: lines =>
    match assembleLine line, assembleLines lines with
    | some fs, some rest => some (fs ++ rest)
    | _, _ => none

/-- A program text, one operation per line, to the frames the requester issues (R71; 95_test_vectors.md section 3). -/
def assemble (text : String) : Option (List Frame) := assembleLines (splitAtSep '\n' text.toList)

end Sys2Proof.Machine
end

