-- ==== Sys2Proof/Tests/Slice0.lean ====
section
/-! SUPPORT. The model's own tests. Expected values are those of 95_test_vectors.md (the section is named at each group)
or are written out from the encodings of 30_encoding.md. -/

namespace Sys2Proof.Tests

set_option Elab.async false

open Sys2Proof.Machine Sys2Proof.Safety

/-- The next state, if there is one. -/
def after : Host.Outcome State Fault Refusal → Option State
  | .next t => some t
  | .fault _ => none
  | .refused _ => none

/-- Registers with a given `CRC` and `V`, the rest as after reset. -/
def withCrcV (crc : Byte) (v : Bool) : State := { State.reset with regs := { Regs.reset with crc := crc, v := v } }

/-- Reset with one request issued. -/
def requested (f : Frame) : State := { State.reset with inputs := [.request f] }

/-- The six words of scenario S7 (1.2). -/
def s7 : Instr :=
  .mdec ⟨0x44, 0x54, 0x31⟩ ⟨0xA0, 0x00, 0x7E⟩ ⟨0x41, 0xBE, 0x5C⟩ ⟨0x00, 0x00, 0x81⟩ ⟨0x42, 0x24, 0x93⟩
    ⟨0x00, 0x00, 0x81⟩

/-- S7 with the data of word 5 corrupted (2.7). -/
def s7BadWord5 : Instr :=
  .mdec ⟨0x44, 0x54, 0x31⟩ ⟨0xA0, 0x00, 0x7E⟩ ⟨0x41, 0xBE, 0x5C⟩ ⟨0x00, 0x00, 0x81⟩ ⟨0x42, 0x24, 0x93⟩
    ⟨0x80, 0x00, 0x81⟩

/-- The frame of S7a (1.2). -/
def s7Frame : Frame :=
  [0x30, 0x44, 0x54, 0x31, 0xA0, 0x00, 0x7E, 0x41, 0xBE, 0x5C, 0x00, 0x00, 0x81, 0x42, 0x24, 0x93, 0x00, 0x00, 0x81]

/-! ## Well-formedness: an ill-formed term for each check -/

theorem test_wellFormed_refuses_long_csum : (Instr.csum (List.replicate 256 0)).wellFormed = false := by decide +kernel

theorem test_wellFormed_refuses_long_cval : (Instr.cval (List.replicate 256 0) 0).wellFormed = false := by decide +kernel

theorem test_wellFormed_accepts_255 : (Instr.csum (List.replicate 255 0)).wellFormed = true ∧
    (Instr.cval (List.replicate 255 0) 0).wellFormed = true := by decide +kernel

/-! ## The parameters of R5 agree with the frame lengths of R61 -/

theorem test_parameters : Config.measBytes = Config.measWords * Config.wordBytes ∧
    Config.wordBytes = Config.wordDataBytes + 1 ∧ Format.m.length 0 = 1 + Config.measBytes ∧
    Format.w.length 0 = 1 + Config.wordBytes ∧ Format.h.length 0 = 1 + Config.wordDataBytes := by decide

/-! ## Decoding: a frame of each constructor, written out from 30_encoding.md R61, R62 -/

theorem test_decode_crcinit : decode [0x01] = .ok .crcinit := by decide

theorem test_decode_crcupd : decode [0x02, 0xBE] = .ok (.crcupd 0xBE) := by decide

theorem test_decode_crcchk : decode [0x03, 0x92] = .ok (.crcchk 0x92) := by decide

theorem test_decode_csum : decode [0x04, 0x02, 0xBE, 0xEF] = .ok (.csum [0xBE, 0xEF]) ∧
    decode [0x04, 0x00] = .ok (.csum []) := by decide

theorem test_decode_cval : decode [0x05, 0x02, 0xBE, 0xEF, 0x92] = .ok (.cval [0xBE, 0xEF] 0x92) ∧
    decode [0x05, 0x00, 0xFF] = .ok (.cval [] 0xFF) := by decide

theorem test_decode_wchk : decode [0x10, 0x00, 0x02, 0xE3] = .ok (.wchk ⟨0x00, 0x02, 0xE3⟩) := by decide

theorem test_decode_argf : decode [0x11, 0x00, 0x02] = .ok (.argf 0x00 0x02) := by decide

theorem test_decode_rdyw : decode [0x12, 0x00, 0x01, 0xB0] = .ok (.rdyw ⟨0x00, 0x01, 0xB0⟩) := by decide

theorem test_decode_fdec : decode [0b00100001, 0x41, 0xBE, 0x00, 0x00] = .ok (.fdec .temp 0x41 0xBE 0x00 0x00) ∧
    decode [0b00100010, 0x01, 0x02, 0x03, 0x04] = .ok (.fdec .hum 0x01 0x02 0x03 0x04) := by decide

theorem test_decode_mdec : decode s7Frame = .ok s7 := by decide

/-! ## Malformed frames (2.8) -/

theorem test_decode_reserved : decode [] = .error .emptyFrame ∧ decode [0x00] = .error (.reservedOpcode 0x00) ∧
    decode [0xFF] = .error (.reservedOpcode 0xFF) ∧ decode [0x06] = .error (.reservedOpcode 0x06) ∧
    decode [0x13, 0x00, 0x01, 0xB0] = .error (.reservedOpcode 0x13) ∧
    decode [0x23, 0x01, 0x02, 0x03, 0x04] = .error (.reservedOpcode 0x23) ∧
    decode [0x24, 0x01, 0x02, 0x03, 0x04] = .error (.reservedOpcode 0x24) := by decide

theorem test_decode_wrong_length : decode [0x01, 0x00] = .error (.wrongLength 0x01 2) ∧
    decode [0x02] = .error (.wrongLength 0x02 1) ∧ decode [0x20, 0x01, 0x02, 0x03] = .error (.wrongLength 0x20 4) ∧
    decode [0x10, 0x00, 0x01] = .error (.wrongLength 0x10 3) ∧
    decode [0x11, 0x00, 0x02, 0xE3] = .error (.wrongLength 0x11 4) := by decide

theorem test_decode_wrong_sequence_length : decode [0x04] = .error (.wrongLength 0x04 1) ∧
    decode [0x04, 0x03, 0x01, 0x02] = .error (.wrongLength 0x04 4) ∧
    decode [0x04, 0x01, 0x01, 0x02] = .error (.wrongLength 0x04 4) ∧
    decode [0x05, 0x00] = .error (.wrongLength 0x05 2) := by decide

theorem test_decode_mdec_wrong_length : decode (0x30 :: List.replicate 17 0) = .error (.wrongLength 0x30 18) ∧
    decode (0x30 :: List.replicate 19 0) = .error (.wrongLength 0x30 20) := by decide

theorem test_step_illegalOp : after (step (requested [0x23, 0x44, 0x54, 0xA0, 0x00])) =
    some { State.reset with response := some ⟨.illegalOp, .empty⟩ } := by decide

/-! ## Encoding and the table's numbering of bits (R62) -/

theorem test_encode_mdec : encode s7 = s7Frame := by decide

theorem test_encode_cval : encode (.cval [0xBE, 0xEF] 0x92) = [0x05, 0x02, 0xBE, 0xEF, 0x92] := by decide

theorem test_decodeTableWord : decodeTableWord 8 0x03 = some (.crcchk 0x00) ∧
    decodeTableWord 16 0x9203 = some (.crcchk 0x92) ∧ decodeTableWord 8 0x05 = some (.cval [] 0x00) ∧
    decodeTableWord 8 0x22 = some (.fdec .hum 0 0 0 0) ∧ decodeTableWord 8 0x23 = none := by decide

theorem test_step_withFetchWord : after (step (State.reset.withFetchWord 16 0x9203)) =
    after (exec (.crcchk 0x92) State.reset) := by decide

/-! ## The checksum (2.1 to 2.3) -/

theorem test_crc8Step_trace : crc8Step 0xFF 0xBE = 0x0C ∧ crc8Step 0x0C 0xEF = 0x92 ∧ crc8Step 0xFF 0x00 = 0xAC := by
  decide

theorem test_crc8Step_single : crc8Step 0x00 0x00 = 0x00 ∧ crc8Step 0x00 0x01 = 0x31 ∧ crc8Step 0x00 0x80 = 0x7A ∧
    crc8Step 0xFF 0xFF = 0x00 ∧ crc8Step 0x92 0x92 = 0x00 := by decide

theorem test_computeChecksum_short : computeChecksum [] = 0xFF ∧ computeChecksum [0x7F] = 0x7A ∧
    computeChecksum [0x00, 0x00] = 0x81 ∧ computeChecksum [0x12, 0x34] = 0x37 ∧ computeChecksum [0x80, 0x01] = 0x93 ∧
    computeChecksum [0xFF, 0xFF] = 0xAC := by decide +kernel

theorem test_computeChecksum_ascii :
    computeChecksum [0x31, 0x32, 0x33, 0x34, 0x35, 0x36, 0x37, 0x38, 0x39] = 0xF7 := by decide +kernel

theorem test_crcTable_entries : crcTable.length = 256 ∧ crcTable[0xE3]? = some 0x92 ∧ crcTable[0x41]? = some 0x0C := by
  decide +kernel

/-! ## Engine operations (2.4) -/

theorem test_crcinit : (after (exec .crcinit (withCrcV 0x92 true))).map State.regs =
    some { Regs.reset with crc := 0xFF, v := true } := by decide

theorem test_crcupd : (after (exec (.crcupd 0xEF) (withCrcV 0x0C false))).map (fun t => (t.regs.crc, t.response)) =
    some (0x92, some ⟨.ok, .empty⟩) := by decide

theorem test_crcchk_match : (after (exec (.crcchk 0x92) (withCrcV 0x92 false))).map (fun t => (t.regs.crc, t.response)) =
    some (0x92, some ⟨.ok, .verdict true⟩) := by decide

theorem test_crcchk_mismatch : (after (exec (.crcchk 0x93) (withCrcV 0x92 true))).map (fun t => t.regs.v) =
    some false := by decide

theorem test_csum_ignores_old_crc : (after (exec (.csum [0xBE, 0xEF]) (withCrcV 0x00 false))).map
    (fun t => (t.regs.crc, t.response)) = some (0x92, some ⟨.ok, .checksum 0x92⟩) := by decide +kernel

theorem test_csum_empty : (after (exec (.csum []) (withCrcV 0x12 false))).map (fun t => t.regs.crc) = some 0xFF := by
  decide

theorem test_cval_match : (after (exec (.cval [0xBE, 0xEF] 0x92) State.reset)).map (fun t => (t.regs.crc, t.regs.v)) =
    some (0x92, true) := by decide +kernel

theorem test_cval_mismatch : (after (exec (.cval [0xBE, 0xEF] 0x12) State.reset)).map
    (fun t => (t.regs.crc, t.response)) = some (0x92, some ⟨.ok, .verdict false⟩) := by decide +kernel

/-! ## Word operations (2.5) -/

theorem test_wchk_valid : (after (exec (.wchk ⟨0x03, 0x42, 0xF3⟩) State.reset)).map
    (fun t => (t.regs.crc, t.response)) = some (0xF3, some ⟨.ok, .wordCheck 0x0342 true⟩) := by decide +kernel

theorem test_wchk_invalid_delivers_data : (after (exec (.wchk ⟨0x00, 0x05, 0x75⟩) (withCrcV 0x00 true))).map
    (fun t => (t.regs.data, t.regs.v)) = some (0x0005, false) := by decide +kernel

theorem test_argf : (after (exec (.argf 0x03 0xF5) (withCrcV 0x00 true))).map (fun t => (t.regs.v, t.response)) =
    some (true, some ⟨.ok, .argFrame [0x03, 0xF5, 0xDB]⟩) := by decide +kernel

theorem test_argf_data : (after (exec (.argf 0x01 0x90) State.reset)).map (fun t => (t.regs.data, t.regs.crc)) =
    some (0x0190, 0x4C) := by decide +kernel

/-! ## Float decoding (2.6) -/

theorem test_fdec_nan_payload : (after (exec (.fdec .fr0 0x7F 0xC0 0x00 0x01) State.reset)).map State.regs =
    some { Regs.reset with fr0 := 0x7FC00001 } := by decide

theorem test_fdec_other_register : (after (exec (.fdec .hum 0x42 0x24 0x00 0x00) State.reset)).map
    (fun t => (t.regs.fr2, t.response)) = some (0x42240000, some ⟨.ok, .pattern 0x42240000⟩) := by decide

/-! ## Policy operations (2.7) -/

theorem test_rdyw_low_bit_is_second_byte : (after (exec (.rdyw ⟨0x80, 0x01, 0x93⟩) State.reset)).map
    (fun t => t.response) = some (some ⟨.ok, .ready true⟩) ∧
    (after (exec (.rdyw ⟨0x01, 0x00, 0x75⟩) State.reset)).map (fun t => (t.regs.v, t.regs.rdy)) =
    some (true, false) := by decide +kernel

theorem test_rdyw_corrupted : (after (exec (.rdyw ⟨0x00, 0x01, 0xB1⟩) State.reset)).map
    (fun t => (t.regs.crc, t.regs.v, t.regs.data, t.response)) =
    some (0xB0, false, 0x0001, some ⟨.ok, .ready false⟩) := by decide +kernel

theorem test_mdec_s7a : (after (exec s7 State.reset)).map (fun t => (t.regs, t.response)) =
    some (⟨0x81, true, false, 0x0000, 0x4454A000, 0x41BE0000, 0x42240000⟩,
      some ⟨.ok, .triple 0x4454A000 0x41BE0000 0x42240000⟩) := by decide +kernel

theorem test_mdec_bad_word5 : (after (exec s7BadWord5
    { State.reset with regs := ⟨0x81, true, true, 0x0000, 0x4454A000, 0x41BE0000, 0x42240000⟩ })).map
      (fun t => (t.regs, t.response)) =
    some (⟨0xA2, false, true, 0x8000, 0x4454A000, 0x41BE0000, 0x42240000⟩, some ⟨.checksumInvalid, .empty⟩) := by
  decide +kernel

/-! ## The step, reset and the ports -/

theorem test_step_reset : after (step { withCrcV 0x12 true with inputs := [.reset, .request [0x01]] }) =
    some { State.reset with inputs := [.request [0x01]] } := by decide

theorem test_step_idle : after (step (withCrcV 0x12 true)) = some (withCrcV 0x12 true) := by decide

theorem test_status : (portsOf { State.reset with regs := { Regs.reset with rdy := true } }).status = 0x02 ∧
    (portsOf (withCrcV 0xFF true)).status = 0x01 := by decide

/-! ## Pseudo-operations and the textual form (R71, R72) -/

theorem test_fdecv : (after (runFdecv .fr1 ⟨0x41, 0xBE, 0x5C⟩ ⟨0x00, 0x00, 0x81⟩ State.reset)).map State.regs =
    some ⟨0x81, true, false, 0x0000, 0, 0x41BE0000, 0⟩ := by decide +kernel

theorem test_assemble_sequences : assemble "CSUM\nCVAL 0xBE, 0xEF : 0x92 ; P1's single frame" =
    some [[0x04, 0x00], [0x05, 0x02, 0xBE, 0xEF, 0x92]] := by decide +kernel

theorem test_assemble_fdec : assemble "FDEC TEMP, 0x41, 0xBE, 0x00, 0x00\n\nWCHK 0x00, 0x02, 0xE3" =
    some [[0x21, 0x41, 0xBE, 0x00, 0x00], [0x10, 0x00, 0x02, 0xE3]] := by decide +kernel

theorem test_assemble_refuses : assemble "FDEC FR3, 0x41, 0xBE, 0x00, 0x00" = none ∧ assemble "CRCUPD" = none := by
  decide +kernel

/-! ## What a pattern denotes (2.6) -/

theorem test_floatClass : floatClass 0x00000001 = .subnormal ∧ floatClass 0xFF800000 = .infinity ∧
    floatClass 0x7F800001 = .nan ∧ floatClass 0x80000000 = .zero ∧ floatClass 0x3F800000 = .normal := by decide

end Sys2Proof.Tests
end

