-- ==== Sys2Proof/Tests/Witness.lean ====
section
/-! SUPPORT. For every statement with hypotheses, a concrete state and operands that meet all of them together, clause
by clause. -/

namespace Sys2Proof.Tests

set_option Elab.async false

open Sys2Proof.Machine Sys2Proof.Safety

/-- Six valid words: those of S7. -/
def validWords : List RespWord :=
  [⟨0x44, 0x54, 0x31⟩, ⟨0xA0, 0x00, 0x7E⟩, ⟨0x41, 0xBE, 0x5C⟩, ⟨0x00, 0x00, 0x81⟩, ⟨0x42, 0x24, 0x93⟩,
   ⟨0x00, 0x00, 0x81⟩]

/-- The same with the checksum of the third word received corrupted (S7b). -/
def oneBadWord : List RespWord :=
  [⟨0x44, 0x54, 0x31⟩, ⟨0xA0, 0x00, 0x7E⟩, ⟨0x41, 0xBE, 0x5D⟩, ⟨0x00, 0x00, 0x81⟩, ⟨0x42, 0x24, 0x93⟩,
   ⟨0x00, 0x00, 0x81⟩]

/-- S7b as an operation. -/
def s7b : Instr :=
  .mdec ⟨0x44, 0x54, 0x31⟩ ⟨0xA0, 0x00, 0x7E⟩ ⟨0x41, 0xBE, 0x5D⟩ ⟨0x00, 0x00, 0x81⟩ ⟨0x42, 0x24, 0x93⟩
    ⟨0x00, 0x00, 0x81⟩

/-- A frame with an error decodes to no operation. -/
theorem not_ok_of_error {f : Frame} {e : DecodeError} (h : decode f = .error e) (i : Instr) : decode f ≠ .ok i := by
  rw [h]
  exact fun h' => nomatch h'

theorem witness_DecodeEncodeRoundTrip : (Instr.csum (List.replicate 255 0xFF)).wellFormed = true ∧
    s7.wellFormed = true := by decide +kernel

theorem witness_DecoderAcceptsExactly : ∀ i, decode [0x23, 0x44, 0x54, 0xA0, 0x00] ≠ .ok i :=
  not_ok_of_error (e := .reservedOpcode 0x23) (by decide)

/-- `Rejected` speaks of states whose next request is the frame: there is one for every frame. -/
theorem witness_Rejected (f : Frame) : (requested f).inputs = .request f :: [] := rfl

theorem witness_WrongLengthRejected :
    (([0x01, 0x00] : Frame).head? = some 0x01 ∧ ([0x01, 0x00] : Frame).length ≠ 1) ∧
    (([0x02] : Frame).head? = some 0x02 ∧ ([0x02] : Frame).length ≠ 2) ∧
    (([0x03, 0x00, 0x00] : Frame).head? = some 0x03 ∧ ([0x03, 0x00, 0x00] : Frame).length ≠ 2) ∧
    (([0x01, 0x02] : List Byte).length ≠ (0x03 : Byte).toNat) ∧
    (([] : List Byte).length ≠ (0x00 : Byte).toNat + 1) ∧
    (([0x10, 0x00, 0x01] : Frame).head? = some 0x10 ∧ ([0x10, 0x00, 0x01] : Frame).length ≠ 4) ∧
    (([0x11, 0x00, 0x02, 0xE3] : Frame).head? = some 0x11 ∧ ([0x11, 0x00, 0x02, 0xE3] : Frame).length ≠ 3) ∧
    (([0x12] : Frame).head? = some 0x12 ∧ ([0x12] : Frame).length ≠ 4) ∧
    (([0x20, 0x01, 0x02, 0x03] : Frame).head? = some 0x20 ∧ ([0x20, 0x01, 0x02, 0x03] : Frame).length ≠ 5) ∧
    (([0x21] : Frame).head? = some 0x21 ∧ ([0x21] : Frame).length ≠ 5) ∧
    (([0x22] : Frame).head? = some 0x22 ∧ ([0x22] : Frame).length ≠ 5) ∧
    (([0x30] : Frame).head? = some 0x30 ∧ ([0x30] : Frame).length ≠ 19) ∧
    decode [0x01] = .ok .crcinit := by decide

theorem witness_ReservedOpcodesRejected : (0x24 : Byte) ∉ assignedOpcodes ∧ (0x1F : Byte) ∉ assignedOpcodes := by
  decide

theorem witness_OpcodeMapSelects : decode [0x22, 0x01, 0x02, 0x03, 0x04] = .ok (.fdec .fr2 0x01 0x02 0x03 0x04) ∧
    (∃ a ∈ opcodeTable, (0x21 : Byte) &&& a.mask = a.value) ∧
    (∀ row ∈ opcodeTable, (0x24 : Byte) &&& row.mask ≠ row.value) := by decide

/-- Every row of the map has a byte 0 it selects other than 0x23, and operand bytes of its length (zeros: n = 0 for the
two variable-length forms); the last selecting byte of `FDEC` and the longest `CVAL` are the boundary cases. -/
theorem witness_OpcodeMapSelects_rows :
    (∀ row ∈ opcodeTable, row.value ≠ 0x23 ∧ row.value &&& row.mask = row.value ∧
      (row.value :: List.replicate (row.format.length 0 - 1) (0 : Byte)).length =
        row.format.length ((List.replicate (row.format.length 0 - 1) (0 : Byte)).headD 0).toNat) ∧
    ((0x22 : Byte) ≠ 0x23 ∧ (0x22 : Byte) &&& 0xFC = 0x20) ∧
    (0x05 :: 0xFF :: List.replicate 256 (0 : Byte)).length = Format.vc.length (0xFF : Byte).toNat := by decide +kernel

theorem witness_VariableLengthForms : Format.m ≠ .v ∧ Format.m ≠ .vc ∧
    ([] : List Byte).length = (0x00 : Byte).toNat ∧ (List.replicate 255 (0 : Byte)).length = (0xFF : Byte).toNat ∧
    ([0x01, 0x02] : List Byte).length ≠ (0x01 : Byte).toNat ∧ decode [0x04, 0x01, 0xBE] = .ok (.csum [0xBE]) ∧
    decode [0x05, 0x01, 0xBE, 0x0C] = .ok (.cval [0xBE] 0x0C) := by decide +kernel

theorem witness_StepRunsDecodedOperation : (requested [0x02, 0xBE]).inputs = .request [0x02, 0xBE] :: [] ∧
    decode [0x02, 0xBE] = .ok (.crcupd 0xBE) ∧
    (after (step (requested [0x02, 0xBE]))).map (fun t => t.regs.crc) = some 0x0C := by decide +kernel

theorem witness_IllegalOpWritesNothing : (requested []).inputs = .request [] :: [] ∧ ∀ i, decode [] ≠ .ok i :=
  ⟨rfl, not_ok_of_error (e := .emptyFrame) rfl⟩

theorem witness_IdleKeepsState : (withCrcV 0x92 true).inputs = [] := rfl

theorem witness_ResetEvent : ({ withCrcV 0x92 true with inputs := [.reset, .request [0x01]] } : State).inputs =
    .reset :: .request [0x01] :: [] ∧ decode [0x01] = .ok .crcinit := by decide

theorem witness_CrcinitRule : ([0x01] : Frame).head? = some 0x01 ∧ ([0x01] : Frame).length = 1 ∧
    ([0x01, 0x00] : Frame).length ≠ 1 ∧ State.reset.regs.crc = 0xFF ∧
    after (exec .crcinit State.reset) = some { State.reset with response := some ⟨.ok, .empty⟩ } ∧
    (checkedBytes (.csum [0xBE])).isSome = true ∧ (checkedBytes s7).isSome = true := by decide

theorem witness_CrcupdRule : checkedBytes (.csum []) = some [] ∧ checkedBytes (.argf 0x00 0x02) = some [0x00, 0x02] ∧
    checkedBytes s7 = some [0x00, 0x00] := by decide

theorem witness_CrcchkRule : (withCrcV 0x92 false).regs.crc = 0x92 := rfl

theorem witness_CsumRule : ([0xBE, 0xEF] : List Byte).length = (0x02 : Byte).toNat ∧
    ([0xBE, 0xEF] : List Byte).length ≠ (0x01 : Byte).toNat := by decide

theorem witness_CvalRule : (List.replicate 255 (0 : Byte)).length = (0xFF : Byte).toNat := by decide +kernel

theorem witness_FdecRule : (([0x20] : Frame).head? = some 0x20 ∧ ([0x20] : Frame).length ≠ 5) ∧
    (([0x21, 0, 0, 0, 0, 0] : Frame).head? = some 0x21 ∧ ([0x21, 0, 0, 0, 0, 0] : Frame).length ≠ 5) ∧
    (([0x22] : Frame).head? = some 0x22 ∧ ([0x22] : Frame).length ≠ 5) := by decide

theorem witness_MdecRule_valid : ∀ w ∈ validWords, validate [w.d0, w.d1] w.c = true := by decide +kernel

theorem witness_MdecRule_invalid : ∃ w ∈ oneBadWord, validate [w.d0, w.d1] w.c = false := by decide +kernel

theorem witness_MdecRule_length : ([0x30] : Frame).head? = some 0x30 ∧ ([0x30] : Frame).length ≠ 19 := by decide

theorem witness_SingleBitErrorsDetected : wordValid ⟨0xBE, 0xEF, 0x92⟩ = true ∧
    flipBit ⟨0xBE, 0xEF, 0x92⟩ 0 = ⟨0xBE, 0xEF, 0x93⟩ ∧ flipBit ⟨0xBE, 0xEF, 0x92⟩ 15 = ⟨0xBE, 0x6F, 0x92⟩ ∧
    flipBit ⟨0xBE, 0xEF, 0x92⟩ 16 = ⟨0xBF, 0xEF, 0x92⟩ ∧ flipBit ⟨0xBE, 0xEF, 0x92⟩ 23 = ⟨0x3E, 0xEF, 0x92⟩ := by
  decide +kernel

theorem witness_ReadyDecodeRule : wordValid ⟨0x00, 0x01, 0xB0⟩ = true ∧ wordValid ⟨0x80, 0x01, 0x93⟩ = true ∧
    (0x01 : Byte).getLsbD 0 = (0x01 : Byte).getLsbD 0 := by decide +kernel

theorem witness_MeasDecodeRefinement : (∀ w ∈ validWords, validate [w.d0, w.d1] w.c = true) ∧
    ∃ w ∈ oneBadWord, validate [w.d0, w.d1] w.c = false := by decide +kernel

theorem witness_PoliciesNotMerged : wordValid ⟨0x00, 0x01, 0xB1⟩ = false ∧ ∃ w ∈ oneBadWord, wordValid w = false := by
  decide +kernel

theorem witness_OnlyMdecRaisesChecksumInvalid :
    (after (exec s7b State.reset)).map State.response = some (some ⟨.checksumInvalid, .empty⟩) ∧
    State.reset.regs.crc ≠ 0x00 ∧ computeChecksum [0xBE, 0xEF] ≠ 0x12 ∧ wordValid ⟨0x00, 0x01, 0xB1⟩ = false := by
  decide +kernel

theorem witness_OneOutcomePerRequest : (requested [0x01]).inputs = .request [0x01] :: [] := rfl

theorem witness_MeasurementFrameOutcomes :
    (requested (0x30 :: List.replicate 18 0)).inputs = .request (0x30 :: List.replicate 18 0) :: [] ∧
    (List.replicate 18 (0 : Byte)).length = 18 ∧ (List.replicate 17 (0 : Byte)).length ≠ 18 ∧
    (∃ w ∈ oneBadWord, wordValid w = false) ∧
    ∃ w ∈ List.replicate 6 (⟨0x00, 0x00, 0x00⟩ : RespWord), wordValid w = false := by decide +kernel

theorem witness_CrcRegister : checkedBytes (.wchk ⟨0x00, 0x02, 0xE3⟩) = some [0x00, 0x02] ∧
    (∀ b, Instr.csum [] ≠ .crcupd b) ∧ (∀ c, Instr.csum [] ≠ .crcchk c) := by
  refine ⟨by decide, ?_, ?_⟩ <;> intro _ h <;> cases h

theorem witness_DataRegister : (∀ w, Instr.crcinit ≠ .wchk w) ∧ (∀ w, Instr.crcinit ≠ .rdyw w) ∧
    (∀ a0 a1, Instr.crcinit ≠ .argf a0 a1) ∧ ∀ w0 w1 w2 w3 w4 w5, Instr.crcinit ≠ .mdec w0 w1 w2 w3 w4 w5 := by
  refine ⟨?_, ?_, ?_, ?_⟩ <;> intros <;> exact fun h => nomatch h

theorem witness_ReadyRegister : ∀ w, s7 ≠ .rdyw w := fun _ h => nomatch h

theorem witness_FloatRegisters : (∀ rd p0 p1 p2 p3, Instr.crcinit ≠ .fdec rd p0 p1 p2 p3) ∧
    ∀ w0 w1 w2 w3 w4 w5, Instr.crcinit ≠ .mdec w0 w1 w2 w3 w4 w5 := by
  refine ⟨?_, ?_⟩ <;> intros <;> exact fun h => nomatch h

theorem witness_ResultIndependentOfPriorState : (withCrcV 0x12 true).regs.crc = (withCrcV 0x12 false).regs.crc ∧
    (∀ b, s7 ≠ .crcupd b) ∧ ∀ c, s7 ≠ .crcchk c := by
  refine ⟨rfl, ?_, ?_⟩ <;> intro _ h <;> cases h

/-- A request whose step changes a register. -/
theorem witness_StatusView : (requested [0x02, 0xBE]).inputs = .request [0x02, 0xBE] :: [] ∧
    (after (step (requested [0x02, 0xBE]))).map State.regs = some { Regs.reset with crc := 0x0C } ∧
    ({ Regs.reset with crc := 0x0C } : Regs) ≠ (requested [0x02, 0xBE]).regs := by decide +kernel

/-- The requester holds a verdict of 1 and issues `CRCCHK 0x93`. -/
def checkedOnce : State :=
  { withCrcV 0x92 true with response := some ⟨.ok, .verdict true⟩, inputs := [.request [0x03, 0x93]] }

/-- A state whose response says something of the ports, and a step from it. -/
theorem witness_ResponseAgreesWithPorts : Coherent checkedOnce ∧
    (after (step checkedOnce)).map State.response = some (some ⟨.ok, .verdict false⟩) :=
  ⟨rfl, by decide +kernel⟩

theorem witness_StreamOwnsCrc : [Instr.crcupd 0xBE, .fdec .fr0 0 0 0 0, .crcupd 0xEF, .crcchk 0x92].all keepsStream =
    true := by decide

theorem witness_RequestsServedInOrder : ({ State.reset with inputs := [.request [0x01], .request [0x00], .reset] } :
    State).inputs = ([[0x01], [0x00]] : List Frame).map .request ++ [.reset] := by decide

theorem witness_PseudoOperations : ValidPair ⟨0x41, 0xBE, 0x5C⟩ ⟨0x00, 0x00, 0x81⟩ ∧
    ¬ ValidPair ⟨0x41, 0xBE, 0x5C⟩ ⟨0x00, 0x00, 0x80⟩ := by
  unfold ValidPair
  decide +kernel

theorem witness_NextFrameAfterFailure :
    ({ State.reset with inputs := [.request [0x00], .request [0x01]] } : State).inputs =
      .request [0x00] :: .request [0x01] :: [] ∧ (∀ i, decode [0x00] ≠ .ok i) ∧
    ({ State.reset with inputs := [.request (encode s7b), .request [0x01]] } : State).inputs =
      .request (encode s7b) :: .request [0x01] :: [] ∧ decode (encode s7b) = .ok s7b ∧
    ∃ w ∈ oneBadWord, wordValid w = false :=
  ⟨rfl, not_ok_of_error (e := .reservedOpcode 0x00) (by decide), rfl, by decide +kernel, by decide +kernel⟩

end Sys2Proof.Tests
end

section
/-! SUPPORT. What an operation writes and answers, as data (10_state.md R32, R70). Both are functions of the operation
and of the old `CRC` alone, so that "who writes a register" is a look at one field, and "no operation reads it" needs no
case split. `exec_eq` ties both to `exec`. -/

namespace Sys2Proof.Machine

/-! ## Operand bytes -/

/-- A 16-bit value weighs its first byte 256 (R41). -/
theorem half_toNat (a b : Byte) : (half a b).toNat = 256 * a.toNat + b.toNat := by
  rw [half, BitVec.toNat_append, Nat.shiftLeft_eq, Nat.mul_comm, Nat.two_pow_add_eq_or_of_lt b.isLt]

/-- Bit 0 of the data is bit 0 of its second byte (R121). -/
theorem half_getLsbD_zero (a b : Byte) : (half a b).getLsbD 0 = b.getLsbD 0 := by
  rw [half, BitVec.getLsbD_append, if_pos (by decide)]

@[simp] theorem highByte_half (a b : Byte) : highByte (half a b) = a :=
  BitVec.extractLsb'_append_eq_left

@[simp] theorem lowByte_half (a b : Byte) : lowByte (half a b) = b :=
  BitVec.extractLsb'_append_eq_right

/-- A word is valid when the checksum of its data is the one received (R44, R83). -/
theorem wordValid_eq_true_iff (w : RespWord) : wordValid w = true ↔ computeChecksum [w.d0, w.d1] = w.c :=
  validate_eq_true_iff _ _

/-! ## Writes -/

/-- One row of the write table: for each register its new value, or `none` where the row leaves it out (R32). -/
structure RegWrites where
  crc : Option Byte := none
  v : Option Bool := none
  rdy : Option Bool := none
  data : Option Half := none
  fr : FrReg → Option Pattern := fun _ => none

/-- The registers after a row's writes: a register without a new value is as before. -/
def RegWrites.apply (w : RegWrites) (r : Regs) : Regs where
  crc := w.crc.getD r.crc
  v := w.v.getD r.v
  rdy := w.rdy.getD r.rdy
  data := w.data.getD r.data
  fr0 := (w.fr .fr0).getD r.fr0
  fr1 := (w.fr .fr1).getD r.fr1
  fr2 := (w.fr .fr2).getD r.fr2

theorem RegWrites.apply_fr (w : RegWrites) (r : Regs) (q : FrReg) : (w.apply r).fr q = (w.fr q).getD (r.fr q) := by
  cases q <;> rfl

/-- Register `q` of the triple (co2, temperature, humidity) (R125). -/
def Triple.fr (t : Triple) : FrReg → Pattern
  | .fr0 => t.co2
  | .fr1 => t.temperature
  | .fr2 => t.humidity

/-- The write table, one row per operation, given the old `CRC` (R32). -/
def writesOf (i : Instr) (crc : Byte) : RegWrites :=
  match i with
  | .crcinit => { crc := some 0xFF }
  | .crcupd b => { crc := some (crc8Step crc b) }
  | .crcchk c => { v := some (crc == c) }
  | .csum bytes => { crc := some (computeChecksum bytes) }
  | .cval bytes c => { crc := some (computeChecksum bytes), v := some (validate bytes c) }
  | .wchk w => { crc := some (computeChecksum [w.d0, w.d1]), v := some (wordValid w), data := some (wordData w) }
  | .argf a0 a1 => { crc := some (computeChecksum [a0, a1]), data := some (half a0 a1) }
  | .rdyw w =>
    { crc := some (computeChecksum [w.d0, w.d1]), v := some (wordValid w), rdy := some (readyDecode w),
      data := some (wordData w) }
  | .fdec rd p0 p1 p2 p3 => { fr := fun q => if q = rd then some (decodeFloat p0 p1 p2 p3) else none }
  | .mdec w0 w1 w2 w3 w4 w5 =>
    { crc := some (computeChecksum [w5.d0, w5.d1]), v := some ([w0, w1, w2, w3, w4, w5].all wordValid),
      data := some (wordData w5), fr := fun q => ((measDecode w0 w1 w2 w3 w4 w5).toOption).map (Triple.fr · q) }

/-- The answer of an operation, given the old `CRC` (the "Result" lines of R86 to R90, R103, R111, R113, R122, R124). -/
def responseOf (i : Instr) (crc : Byte) : Response :=
  match i with
  | .crcinit => ⟨.ok, .empty⟩
  | .crcupd _ => ⟨.ok, .empty⟩
  | .crcchk c => ⟨.ok, .verdict (crc == c)⟩
  | .csum bytes => ⟨.ok, .checksum (computeChecksum bytes)⟩
  | .cval bytes c => ⟨.ok, .verdict (validate bytes c)⟩
  | .wchk w => ⟨.ok, .wordCheck (wordData w) (wordValid w)⟩
  | .argf a0 a1 => ⟨.ok, .argFrame [a0, a1, computeChecksum [a0, a1]]⟩
  | .rdyw w => ⟨.ok, .ready (readyDecode w)⟩
  | .fdec _ p0 p1 p2 p3 => ⟨.ok, .pattern (decodeFloat p0 p1 p2 p3)⟩
  | .mdec w0 w1 w2 w3 w4 w5 =>
    match measDecode w0 w1 w2 w3 w4 w5 with
    | .ok t => ⟨.ok, .triple t.co2 t.temperature t.humidity⟩
    | .error e => ⟨e.outcome, .empty⟩

/-- The state after an operation: the row's writes, the answer, and the same pending inputs. -/
def stateAfter (i : Instr) (s : State) : State where
  regs := (writesOf i s.regs.crc).apply s.regs
  inputs := s.inputs
  response := some (responseOf i s.regs.crc)

/-- The triple six words carry, valid or not: each float from the data of two words (R123, R125). -/
def carriedTriple (w0 w1 w2 w3 w4 w5 : RespWord) : Triple where
  co2 := decodeFloat w0.d0 w0.d1 w1.d0 w1.d1
  temperature := decodeFloat w2.d0 w2.d1 w3.d0 w3.d1
  humidity := decodeFloat w4.d0 w4.d1 w5.d0 w5.d1

/-- A measurement of six valid words is the triple they carry (R123). -/
theorem measDecode_of_all_valid {w0 w1 w2 w3 w4 w5 : RespWord} (h : [w0, w1, w2, w3, w4, w5].all wordValid = true) :
    measDecode w0 w1 w2 w3 w4 w5 = .ok (carriedTriple w0 w1 w2 w3 w4 w5) := by
  simp only [List.all_cons, List.all_nil, Bool.and_true, ← Bool.and_assoc] at h
  rw [measDecode, if_pos h, carriedTriple]

/-- A measurement with a bad word delivers nothing (R123). -/
theorem measDecode_of_not_all_valid {w0 w1 w2 w3 w4 w5 : RespWord}
    (h : [w0, w1, w2, w3, w4, w5].all wordValid = false) :
    measDecode w0 w1 w2 w3 w4 w5 = .error .checksumInvalid := by
  simp only [List.all_cons, List.all_nil, Bool.and_true, ← Bool.and_assoc] at h
  rw [measDecode, h, if_neg Bool.false_ne_true]

/-- `MDEC`'s row when all six words are valid (R32). -/
theorem writesOf_mdec_of_all_valid {w0 w1 w2 w3 w4 w5 : RespWord}
    (h : [w0, w1, w2, w3, w4, w5].all wordValid = true) (crc : Byte) :
    writesOf (.mdec w0 w1 w2 w3 w4 w5) crc =
      { crc := some (computeChecksum [w5.d0, w5.d1]), v := some true, data := some (wordData w5),
        fr := fun q => some ((carriedTriple w0 w1 w2 w3 w4 w5).fr q) } := by
  rw [writesOf, h, measDecode_of_all_valid h]
  rfl

/-- `MDEC`'s row when a word is bad: no float register is written (R32). -/
theorem writesOf_mdec_of_not_all_valid {w0 w1 w2 w3 w4 w5 : RespWord}
    (h : [w0, w1, w2, w3, w4, w5].all wordValid = false) (crc : Byte) :
    writesOf (.mdec w0 w1 w2 w3 w4 w5) crc =
      { crc := some (computeChecksum [w5.d0, w5.d1]), v := some false, data := some (wordData w5) } := by
  rw [writesOf, h, measDecode_of_not_all_valid h]
  rfl

/-- `RDY` gathers the verdict and bit 0 of the second data byte (R121, R122). -/
theorem readyFlag_wordValid_half (w : RespWord) : readyFlag (wordValid w) (half w.d0 w.d1) = readyDecode w := by
  rw [readyFlag, half_getLsbD_zero, readyDecode, wordValid]

/-- Every operation ends in a next state: its row's writes and its answer. -/
theorem exec_eq (i : Instr) (s : State) : exec i s = .next (stateAfter i s) := by
  cases i with
  | crcinit => rfl
  | crcupd b => rfl
  | crcchk c => rfl
  | csum bytes => rfl
  | cval bytes c => rfl
  | wchk w => rfl
  | argf a0 a1 =>
    show Host.Outcome.next { s with
      regs := { s.regs with crc := computeChecksum [a0, a1], data := half a0 a1 }
      response := some ⟨.ok, .argFrame [highByte (half a0 a1), lowByte (half a0 a1), computeChecksum [a0, a1]]⟩ } = _
    rw [highByte_half, lowByte_half]
    rfl
  | rdyw w =>
    show Host.Outcome.next { s with
      regs := { s.regs with crc := computeChecksum [w.d0, w.d1], v := wordValid w,
                            rdy := readyFlag (wordValid w) (half w.d0 w.d1), data := wordData w }
      response := some ⟨.ok, .ready (readyFlag (wordValid w) (half w.d0 w.d1))⟩ } = _
    rw [readyFlag_wordValid_half]
    rfl
  | fdec rd p0 p1 p2 p3 => cases rd <;> rfl
  | mdec w0 w1 w2 w3 w4 w5 =>
    show execMdec w0 w1 w2 w3 w4 w5 s = _
    rw [execMdec_eq, stateAfter, responseOf]
    cases h : [w0, w1, w2, w3, w4, w5].all wordValid with
    | true =>
      rw [writesOf_mdec_of_all_valid h, measDecode_of_all_valid h]
      rfl
    | false =>
      rw [writesOf_mdec_of_not_all_valid h, measDecode_of_not_all_valid h]
      rfl

/-- A run of `CRCUPD`s is the fold of `crc8_step` from the old `CRC`, and changes no other register (R87). -/
theorem execSeq_map_crcupd (bytes : List Byte) (s : State) :
    ∃ t : State, execSeq (bytes.map .crcupd) s = .next t ∧ t.inputs = s.inputs ∧
      t.regs = { s.regs with crc := bytes.foldl crc8Step s.regs.crc } := by
  induction bytes generalizing s with
  | nil => exact ⟨s, rfl, rfl, rfl⟩
  | cons b bytes ih =>
    obtain ⟨t, hrun, hinputs, hregs⟩ := ih (stateAfter (.crcupd b) s)
    refine ⟨t, ?_, hinputs, hregs⟩
    rw [List.map_cons, execSeq, exec_eq, andThen_next, hrun]

end Sys2Proof.Machine

namespace Sys2Proof.Safety

open Sys2Proof.Machine

/-- A frame the decoder refuses is answered `IllegalOp` wherever it is next (R142). -/
theorem rejected_of_decode_error {f : Frame} {e : DecodeError} (h : decode f = .error e) : Rejected f := by
  intro s rest hs
  rw [step_eq, hs]
  exact serve_error h _

/-- An operation ignores a change of the registers that leaves its row of writes and its answer as they are, and that
the registers kept do not show. -/
theorem ignores_of_regs {i : Instr} {put : State → State} {keep : Regs → Regs}
    (hwrites : ∀ s, writesOf i (put s).regs.crc = writesOf i s.regs.crc)
    (hresponse : ∀ s, responseOf i (put s).regs.crc = responseOf i s.regs.crc)
    (hkeep : ∀ (w : RegWrites) (s : State), keep (w.apply (put s).regs) = keep (w.apply s.regs)) :
    Ignores i put keep := by
  intro s
  refine ⟨_, _, exec_eq i s, exec_eq i (put s), ?_, ?_⟩
  · simp only [stateAfter, hresponse]
  · simp only [stateAfter, hwrites, hkeep]

/-- No operation reads a register other than `CRC`: a change that leaves `CRC` is ignored by every operation. -/
theorem ignores_of_same_crc (i : Instr) {put : State → State} {keep : Regs → Regs}
    (hcrc : ∀ s, (put s).regs.crc = s.regs.crc)
    (hkeep : ∀ (w : RegWrites) (s : State), keep (w.apply (put s).regs) = keep (w.apply s.regs)) :
    Ignores i put keep :=
  ignores_of_regs (fun s => by rw [hcrc]) (fun s => by rw [hcrc]) hkeep

/-- Only `CRCUPD` and `CRCCHK` read `CRC` (R21). -/
theorem writesOf_responseOf_crc_irrelevant (i : Instr) (hupd : ∀ b, i ≠ .crcupd b) (hchk : ∀ c, i ≠ .crcchk c)
    (x y : Byte) : writesOf i x = writesOf i y ∧ responseOf i x = responseOf i y := by
  cases i with
  | crcupd b => exact absurd rfl (hupd b)
  | crcchk c => exact absurd rfl (hchk c)
  | _ => exact ⟨rfl, rfl⟩

/-- An operation that computes a checksum afresh leaves it in `CRC` (R21). -/
theorem writesOf_crc_of_checkedBytes {i : Instr} {bytes : List Byte} (h : checkedBytes i = some bytes) (crc : Byte) :
    (writesOf i crc).crc = some (computeChecksum bytes) := by
  cases i <;> cases h <;> rfl

end Sys2Proof.Safety
end

section
/-! The statements of the family 10_state.md. -/

namespace Sys2Proof.Proofs

open Sys2Proof.Machine Sys2Proof.Safety

/-- Settles O13: the constants are those of `Regs.reset`; the stream is the fold of `crc8_step` from `CRC` = 0xFF. -/
theorem resetValues : Obligations.ResetValues := by
  refine ⟨rfl, rfl, rfl, rfl, rfl, rfl, rfl, rfl, fun bytes => ?_⟩
  obtain ⟨t, hrun, -, hregs⟩ := execSeq_map_crcupd bytes State.reset
  exact ⟨t, hrun, by rw [hregs, computeChecksum_eq_foldl]; rfl⟩

/-- Settles O41: the `crc` field of the write table, and `CRC` is irrelevant to the rows that do not name it. -/
theorem crcRegister : Obligations.CrcRegister := by
  refine ⟨fun i s => ⟨_, exec_eq i s, ?_, ?_, ?_, ?_⟩, fun i x hupd hchk => ?_⟩
  · rintro rfl
    rfl
  · rintro b rfl
    rfl
  · intro bytes h
    simp only [stateAfter, RegWrites.apply, writesOf_crc_of_checkedBytes h, Option.getD_some]
  · rintro (⟨c, rfl⟩ | ⟨rd, p0, p1, p2, p3, rfl⟩) <;> rfl
  · exact ignores_of_regs (fun s => (writesOf_responseOf_crc_irrelevant i hupd hchk _ _).1)
      (fun s => (writesOf_responseOf_crc_irrelevant i hupd hchk _ _).2) fun _ _ => rfl

/-- Settles O42: the `data` field of the write table does not look at the verdict, and no row reads `DATA`. -/
theorem dataRegister : Obligations.DataRegister := by
  refine ⟨fun w s => ⟨_, _, exec_eq _ s, exec_eq _ s, half_toNat w.d0 w.d1, rfl⟩,
    fun a0 a1 s => ⟨_, exec_eq _ s, half_toNat a0 a1⟩,
    fun w0 w1 w2 w3 w4 w5 s => ⟨_, exec_eq _ s, half_toNat w5.d0 w5.d1⟩,
    fun i s hwchk hrdyw hargf hmdec => ⟨_, exec_eq i s, ?_⟩,
    fun i x => ignores_of_same_crc i (fun _ => rfl) fun _ _ => rfl⟩
  cases i with
  | wchk w => exact absurd rfl (hwchk w)
  | rdyw w => exact absurd rfl (hrdyw w)
  | argf a0 a1 => exact absurd rfl (hargf a0 a1)
  | mdec w0 w1 w2 w3 w4 w5 => exact absurd rfl (hmdec w0 w1 w2 w3 w4 w5)
  | _ => rfl

/-- Settles O43: the `v` field of the write table, a comparison or the conjunction of six, and no row reads `V`. -/
theorem verdictRegister : Obligations.VerdictRegister := by
  refine ⟨fun c s => ⟨_, exec_eq _ s, beq_iff_eq⟩,
    fun bytes c s => ⟨_, exec_eq _ s, validate_eq_true_iff bytes c⟩,
    fun w s => ⟨_, _, exec_eq _ s, exec_eq _ s, wordValid_eq_true_iff w, rfl⟩,
    fun w0 w1 w2 w3 w4 w5 s => ⟨_, exec_eq _ s, ?_⟩,
    fun i s h => ⟨_, exec_eq i s, ?_⟩,
    fun i x => ignores_of_same_crc i (fun _ => rfl) fun _ _ => rfl⟩
  · simp only [← wordValid_eq_true_iff]
    exact List.all_eq_true
  · rcases h with rfl | ⟨b, rfl⟩ | ⟨bytes, rfl⟩ | ⟨a0, a1, rfl⟩ | ⟨rd, p0, p1, p2, p3, rfl⟩ <;> rfl

/-- Settles O44: only `RDYW`'s row writes `RDY`, and no row reads it. -/
theorem readyRegister : Obligations.ReadyRegister := by
  refine ⟨fun w s => ⟨_, exec_eq _ s, Bool.and_eq_true_iff⟩, fun i s hrdyw => ⟨_, exec_eq i s, ?_⟩,
    fun i x => ignores_of_same_crc i (fun _ => rfl) fun _ _ => rfl⟩
  cases i with
  | rdyw w => exact absurd rfl (hrdyw w)
  | _ => rfl

/-- A row's writes carry over a change of one float register, once that register is written over. -/
theorem setFr_apply_setFr (w : RegWrites) (s : State) (rd : FrReg) (x : Pattern) :
    (w.apply (s.setFr rd x).regs).setFr rd 0 = (w.apply s.regs).setFr rd 0 := by
  cases rd <;> simp only [State.setFr, Regs.setFr, RegWrites.apply]

/-- Byte 0x23 selects the reserved `rd` = 3, whatever follows (R63). -/
theorem decode_reserved_selector (rest : List Byte) : decode (0x23 :: rest) = .error (.reservedOpcode 0x23) := rfl

/-- Settles O45: the `fr` field of the write table, `MDEC` split on whether all six words validate. -/
theorem floatRegisters : Obligations.FloatRegisters := by
  refine ⟨fun rd q p0 p1 p2 p3 s => ⟨_, exec_eq _ s, ?fdec⟩, fun w0 w1 w2 w3 w4 w5 s => ⟨_, exec_eq _ s, ?mdec⟩,
    fun i s hfdec hmdec => ⟨_, exec_eq i s, fun q => ?others⟩,
    fun i rd x => ignores_of_same_crc i (fun s => s.setFr_crc rd x) fun w s => setFr_apply_setFr w s rd x,
    fun rest => rejected_of_decode_error (decode_reserved_selector rest)⟩
  case fdec =>
    simp only [stateAfter, RegWrites.apply_fr, writesOf]
    split <;> rfl
  case mdec =>
    split
    case isTrue h =>
      rw [stateAfter, writesOf_mdec_of_all_valid (List.all_eq_true.mpr h)]
      exact ⟨rfl, rfl, rfl⟩
    case isFalse h =>
      intro q
      rw [stateAfter, writesOf_mdec_of_not_all_valid (Bool.eq_false_iff.mpr (mt List.all_eq_true.mp h)),
        RegWrites.apply_fr]
      rfl
  case others =>
    rw [stateAfter, RegWrites.apply_fr]
    cases i with
    | fdec rd p0 p1 p2 p3 => exact absurd rfl (hfdec rd p0 p1 p2 p3)
    | mdec w0 w1 w2 w3 w4 w5 => exact absurd rfl (hmdec w0 w1 w2 w3 w4 w5)
    | _ => rfl

/-- Settles O46: row by row, `writesOf` is the table; `MDEC` has one row per outcome. -/
theorem registerWriteTable : Obligations.RegisterWriteTable := by
  intro i s
  refine ⟨_, exec_eq i s, rfl, ?_⟩
  rw [stateAfter]
  cases i with
  | fdec rd p0 p1 p2 p3 => cases rd <;> rfl
  | mdec w0 w1 w2 w3 w4 w5 =>
    cases h : [w0, w1, w2, w3, w4, w5].all wordValid with
    | true =>
      rw [writesOf_mdec_of_all_valid h]
      exact (if_pos h).symm
    | false =>
      rw [writesOf_mdec_of_not_all_valid h]
      exact (if_neg (Bool.eq_false_iff.mp h)).symm
  | _ => rfl

/-- A one-bit port shows 1 exactly when its flag is set (R27). -/
theorem ofBool_eq_one_iff (b : Bool) : BitVec.ofBool b = 1 ↔ b = true := by
  cases b <;> decide

/-- The `STATUS` view: `V` in bit 0, `RDY` in bit 1, nothing above (R26). -/
theorem status_bits (r : Regs) :
    r.status.getLsbD 0 = r.v ∧ r.status.getLsbD 1 = r.rdy ∧ r.status.toNat < 4 := by
  rw [Regs.status]
  cases r.v <;> cases r.rdy <;> decide

/-- Settles O47: the ports read the registers, and a refused frame changes none of them. -/
theorem statusView : Obligations.StatusView := by
  refine ⟨fun s => ⟨rfl, rfl, rfl, rfl, rfl, ofBool_eq_one_iff _, ofBool_eq_one_iff _⟩,
    fun s => status_bits s.regs, rfl, fun s t f rest hs hstep hne => ?_⟩
  rw [step_eq, hs] at hstep
  cases hdec : decode f with
  | ok i => exact ⟨i, rfl, (serve_ok hdec _).symm.trans hstep⟩
  | error e =>
    cases (serve_error hdec _).symm.trans hstep
    exact absurd rfl hne

end Sys2Proof.Proofs
end

section
/-! SUPPORT. Byte order, and a run of the machine as requests served one after another (20_memory.md R41, R51). -/

namespace Sys2Proof.Machine

/-! ## Patterns and their bytes -/

/-- A byte put after a bit vector shifts it up eight places (R41). -/
theorem append_byte_toNat {n : Nat} (x : BitVec n) (b : Byte) : (x ++ b).toNat = 256 * x.toNat + b.toNat := by
  rw [BitVec.toNat_append, Nat.shiftLeft_eq, Nat.mul_comm, Nat.two_pow_add_eq_or_of_lt b.isLt]

/-- A float pattern weighs its bytes 2^24, 2^16, 2^8 and 1 (R41, R100). -/
theorem decodeFloat_toNat (p0 p1 p2 p3 : Byte) :
    (decodeFloat p0 p1 p2 p3).toNat = p0.toNat * 2 ^ 24 + p1.toNat * 2 ^ 16 + p2.toNat * 2 ^ 8 + p3.toNat := by
  have h : (decodeFloat p0 p1 p2 p3).toNat = 256 * (256 * (half p0 p1).toNat + p2.toNat) + p3.toNat :=
    (append_byte_toNat (half p0 p1 ++ p2) p3).trans (by rw [append_byte_toNat])
  rw [h, half_toNat]
  omega

/-- Bits 31:24 of a float pattern are its first byte (R41). -/
theorem decodeFloat_byte0 (p0 p1 p2 p3 : Byte) : (decodeFloat p0 p1 p2 p3).extractLsb' 24 8 = p0 := by
  rw [decodeFloat, pattern, BitVec.extractLsb'_append_eq_of_le (by decide),
    BitVec.extractLsb'_append_eq_of_le (by decide), BitVec.extractLsb'_append_eq_left]

/-- Bits 23:16 of a float pattern are its second byte (R41). -/
theorem decodeFloat_byte1 (p0 p1 p2 p3 : Byte) : (decodeFloat p0 p1 p2 p3).extractLsb' 16 8 = p1 := by
  rw [decodeFloat, pattern, BitVec.extractLsb'_append_eq_of_le (by decide),
    BitVec.extractLsb'_append_eq_of_le (by decide), BitVec.extractLsb'_append_eq_right]

/-- Bits 15:8 of a float pattern are its third byte (R41). -/
theorem decodeFloat_byte2 (p0 p1 p2 p3 : Byte) : (decodeFloat p0 p1 p2 p3).extractLsb' 8 8 = p2 := by
  rw [decodeFloat, pattern, BitVec.extractLsb'_append_eq_of_le (by decide), BitVec.extractLsb'_append_eq_right]

/-- Bits 7:0 of a float pattern are its last byte (R41). -/
theorem decodeFloat_byte3 (p0 p1 p2 p3 : Byte) : (decodeFloat p0 p1 p2 p3).extractLsb' 0 8 = p3 :=
  BitVec.extractLsb'_append_eq_right

/-- The wire bytes of a float pattern are the four it was assembled from (R41). -/
theorem patternBytes_decodeFloat (p0 p1 p2 p3 : Byte) : patternBytes (decodeFloat p0 p1 p2 p3) = [p0, p1, p2, p3] := by
  rw [patternBytes, decodeFloat_byte0, decodeFloat_byte1, decodeFloat_byte2, decodeFloat_byte3]

/-- The four bytes of a pattern, taken off it from the top, assemble to that pattern (R41, R100). -/
theorem decodeFloat_extractLsb' (p : Pattern) :
    decodeFloat (p.extractLsb' 24 8) (p.extractLsb' 16 8) (p.extractLsb' 8 8) (p.extractLsb' 0 8) = p := by
  rw [decodeFloat, pattern, BitVec.extractLsb'_append_extractLsb'_eq_extractLsb' (by rfl),
    BitVec.extractLsb'_append_extractLsb'_eq_extractLsb' (by rfl),
    BitVec.extractLsb'_append_extractLsb'_eq_extractLsb' (by rfl)]
  exact BitVec.extractLsb'_eq_self

/-- Four bytes in wire order and a 32-bit pattern determine each other (R100). -/
theorem decodeFloat_bijective :
    Function.Bijective (fun p : Byte × Byte × Byte × Byte => decodeFloat p.1 p.2.1 p.2.2.1 p.2.2.2) := by
  constructor
  · rintro ⟨p0, p1, p2, p3⟩ ⟨q0, q1, q2, q3⟩ h
    have hbytes := congrArg patternBytes h
    simp only [patternBytes_decodeFloat] at hbytes
    cases hbytes
    rfl
  · exact fun p => ⟨⟨_, _, _, _⟩, decodeFloat_extractLsb' p⟩

/-! ## Requests in order -/

/-- Serving a frame ends in a next state, the same one whatever is issued after it; those inputs stand (R51). -/
theorem serve_with_inputs (f : Frame) (s : State) :
    ∃ t : State, ∀ later : List Input, serve f { s with inputs := later } = .next { t with inputs := later } := by
  cases h : decode f with
  | ok i => exact ⟨stateAfter i s, fun later => (serve_ok h _).trans (exec_eq i _)⟩
  | error e => exact ⟨{ s with response := some ⟨.illegalOp, .empty⟩ }, fun later => serve_error h _⟩

/-- A run of one step more goes on from the state the first step leaves. -/
theorem run_succ_of_next (M : Host.Core) {s t : M.State} (h : M.step s = .next t) (k : Nat) :
    M.run (k + 1) s = M.run k t := by
  rw [Host.Core.run, h]

/-- When the oldest input is a request, the step serves it and leaves the inputs after it (R51). -/
theorem step_of_request {s : State} {f : Frame} {later : List Input} (h : s.inputs = .request f :: later) :
    step s = serve f { s with inputs := later } := by
  rw [step_eq, h]

end Sys2Proof.Machine
end

section
/-! The statements of the family 20_memory.md. -/

namespace Sys2Proof.Proofs

open Sys2Proof.Machine

/-- Settles O33: each byte keeps its place in the concatenation, so the bytes can be read back and reassembled. -/
theorem bigEndianAssembly : Obligations.BigEndianAssembly :=
  ⟨fun b0 b1 => ⟨half_toNat b0 b1, highByte_half b0 b1, lowByte_half b0 b1⟩,
    fun p0 p1 p2 p3 => ⟨decodeFloat_toNat p0 p1 p2 p3, decodeFloat_byte0 p0 p1 p2 p3, decodeFloat_byte1 p0 p1 p2 p3,
      decodeFloat_byte2 p0 p1 p2 p3, decodeFloat_byte3 p0 p1 p2 p3⟩,
    decodeFloat_bijective⟩

/-- Settles O53, by induction on the frames: the first one's outcome does not depend on the inputs issued after it. -/
theorem requestsServedInOrder : Obligations.RequestsServedInOrder := by
  intro fs rest s hs
  induction fs generalizing s with
  | nil =>
    have hrest : rest = s.inputs := hs.symm
    rw [hrest]
    rfl
  | cons f fs ih =>
    obtain ⟨t, ht⟩ := serve_with_inputs f s
    have hrun : core.run (fs.length + 1) s = core.run fs.length { t with inputs := fs.map .request ++ rest } :=
      run_succ_of_next core ((step_of_request hs).trans (ht _)) _
    have hserve : serveSeq (f :: fs) { s with inputs := rest } = serveSeq fs { t with inputs := rest } := by
      rw [serveSeq, ht, andThen_next]
    rw [List.length_cons, hrun, hserve]
    exact ih _ rfl

end Sys2Proof.Proofs
end

section
/-! SUPPORT. The decoder and the encoder say the same (30_encoding.md R61 to R69): a frame decodes to an operation
exactly when the operation is well formed and the frame is its encoding (`decode_eq_ok_iff`), and a frame decodes to
some operation exactly when it has the length its opcode requires (`decode_ok_iff_requiredLength`). -/

namespace Sys2Proof

/-! ## The length byte -/

/-- The length byte of a sequence it counts is that sequence's length (R65). -/
theorem lengthByte_eq {n : Byte} {s : List Byte} (h : s.length = n.toNat) : BitVec.ofNat 8 s.length = n := by
  rw [h, BitVec.ofNat_toNat, BitVec.setWidth_eq]

/-- A sequence its length byte counts is no longer than `VLEN_MAX` (R65). -/
theorem length_le_vlenMax {n : Byte} {s : List Byte} (h : s.length = n.toNat) : s.length ≤ Config.vlenMax :=
  h ▸ Nat.le_of_lt_succ n.isLt

/-- Some byte counts a sequence exactly when the sequence is short enough, and then it is the length itself (R65). -/
theorem exists_lengthByte_iff (s : List Byte) (P : Byte → Prop) :
    (∃ n : Byte, n.toNat = s.length ∧ P n) ↔ s.length ≤ Config.vlenMax ∧ P (BitVec.ofNat 8 s.length) := by
  constructor
  · rintro ⟨n, hn, hP⟩
    exact ⟨length_le_vlenMax hn.symm, (lengthByte_eq hn.symm).symm ▸ hP⟩
  · rintro ⟨hs, hP⟩
    exact ⟨_, Laws.EncodedLength.length_byte hs, hP⟩

/-! ## Operand bytes by their number -/

/-- The first three bytes of a sequence are a response word (R44). -/
theorem exists_word_of_length {t : List Byte} {k : Nat} (h : t.length = k + 3) :
    ∃ (w : RespWord) (t' : List Byte), t = w.bytes ++ t' ∧ t'.length = k := by
  match t, h with
  | d0 :: d1 :: c :: t', h => exact ⟨⟨d0, d1, c⟩, t', rfl, Nat.add_right_cancel (m := 3) h⟩

/-- Eighteen bytes are six response words (R47, R124). -/
theorem exists_words_of_length {t : List Byte} (h : t.length = 18) : ∃ w0 w1 w2 w3 w4 w5 : RespWord,
    t = w0.bytes ++ w1.bytes ++ w2.bytes ++ w3.bytes ++ w4.bytes ++ w5.bytes := by
  obtain ⟨w0, t0, rfl, h0⟩ := exists_word_of_length h
  obtain ⟨w1, t1, rfl, h1⟩ := exists_word_of_length h0
  obtain ⟨w2, t2, rfl, h2⟩ := exists_word_of_length h1
  obtain ⟨w3, t3, rfl, h3⟩ := exists_word_of_length h2
  obtain ⟨w4, t4, rfl, h4⟩ := exists_word_of_length h3
  obtain ⟨w5, t5, rfl, h5⟩ := exists_word_of_length h4
  obtain rfl := List.length_eq_zero_iff.mp h5
  exact ⟨w0, w1, w2, w3, w4, w5, rfl⟩

/-- Operands as many as format V requires are a length byte and the bytes it counts (R61, R65). -/
theorem exists_lengthByte_of_length {rest : List Byte}
    (h : rest.length + 1 = Format.v.length (rest.headD 0).toNat) :
    ∃ (n : Byte) (s : List Byte), s.length = n.toNat ∧ rest = n :: s := by
  rw [Format.length] at h
  cases rest with
  | nil => cases h
  | cons n s =>
    rw [List.length_cons, List.headD_cons] at h
    exact ⟨n, s, by omega, rfl⟩

/-- Operands as many as format VC requires are a length byte, the bytes it counts and one more (R61, R65). -/
theorem exists_lengthByte_checksum_of_length {rest : List Byte}
    (h : rest.length + 1 = Format.vc.length (rest.headD 0).toNat) :
    ∃ (n : Byte) (s : List Byte) (c : Byte), s.length = n.toNat ∧ rest = n :: (s ++ [c]) := by
  rw [Format.length] at h
  cases rest with
  | nil => cases h
  | cons n t =>
    rw [List.length_cons, List.headD_cons] at h
    have ht : t ≠ [] := List.ne_nil_of_length_pos (by omega)
    exact ⟨n, t.dropLast, t.getLast ht, by rw [List.length_dropLast]; omega, by rw [List.dropLast_concat_getLast]⟩

/-! ## The operand decoders -/

/-- `CSUM`'s operands are accepted only when the length byte counts the rest (R65). -/
theorem decodeCsum_eq_ok {op : Byte} {rest : List Byte} {i : Instr} (h : decodeCsum op rest = .ok i) :
    ∃ (n : Byte) (s : List Byte), s.length = n.toNat ∧ rest = n :: s ∧ i = .csum s := by
  cases rest with
  | nil => cases h
  | cons n s =>
    rw [decodeCsum] at h
    split at h
    case isTrue hn =>
      cases h
      exact ⟨n, s, hn, rfl, rfl⟩
    case isFalse => cases h

/-- `CVAL`'s operands are accepted when the length byte counts all of the rest but its last byte (R65). -/
theorem decodeCval_of_length (op : Byte) {n : Byte} {s : List Byte} (h : s.length = n.toNat) (c : Byte) :
    decodeCval op (n :: (s ++ [c])) = .ok (.cval s c) := by
  rw [decodeCval, ← h, List.drop_left, List.take_left]

/-- `CVAL`'s operands are accepted only when the length byte counts all of the rest but its last byte (R65). -/
theorem decodeCval_eq_ok {op : Byte} {rest : List Byte} {i : Instr} (h : decodeCval op rest = .ok i) :
    ∃ (n : Byte) (s : List Byte) (c : Byte), s.length = n.toNat ∧ rest = n :: (s ++ [c]) ∧ i = .cval s c := by
  cases rest with
  | nil => cases h
  | cons n t =>
    rw [decodeCval] at h
    split at h
    next c hdrop =>
      cases h
      have ht : t.take n.toNat ++ [c] = t := hdrop ▸ List.take_append_drop n.toNat t
      have hlen : t.length - n.toNat = 1 := List.length_drop.symm.trans (congrArg List.length hdrop)
      exact ⟨n, _, c, List.length_take_of_le (by omega), by rw [ht], rfl⟩
    next => cases h

/-- A byte 0 that `FDEC`'s mask and match select, and whose low bits name a register, is that register's (R63). -/
theorem fdec_opcode_of_selector (rd : FrReg) : ∀ op : Byte, op &&& 0xFC = 0x20 →
    FrReg.ofSelector (op.extractLsb' 0 2) = some rd → 0x20 ||| rd.selector.setWidth 8 = op := by
  cases rd <;> decide +kernel

/-- `FDEC`'s operands are accepted only with a register named and four bytes (R63, R103). -/
theorem decodeFdec_eq_ok {op : Byte} {rest : List Byte} {i : Instr} (h : decodeFdec op rest = .ok i) :
    ∃ (rd : FrReg) (p0 p1 p2 p3 : Byte), FrReg.ofSelector (op.extractLsb' 0 2) = some rd ∧
      rest = [p0, p1, p2, p3] ∧ i = .fdec rd p0 p1 p2 p3 := by
  rw [decodeFdec] at h
  split at h
  next => cases h
  next rd hrd =>
    split at h
    next p0 p1 p2 p3 =>
      cases h
      exact ⟨rd, p0, p1, p2, p3, hrd, rfl, rfl⟩
    next => cases h

/-- `MDEC`'s operands are accepted only when they are the bytes of six words (R124). -/
theorem decodeMdec_eq_ok {op : Byte} {rest : List Byte} {i : Instr} (h : decodeMdec op rest = .ok i) :
    ∃ w0 w1 w2 w3 w4 w5 : RespWord,
      rest = w0.bytes ++ w1.bytes ++ w2.bytes ++ w3.bytes ++ w4.bytes ++ w5.bytes ∧
      i = .mdec w0 w1 w2 w3 w4 w5 := by
  unfold decodeMdec at h
  split at h
  next =>
    cases h
    exact ⟨_, _, _, _, _, _, rfl, rfl⟩
  next => cases h

/-! ## The decoder against the encoder -/

/-- A well-formed operation is what its frame decodes to. -/
theorem decode_encode {i : Instr} (h : i.wellFormed = true) : decode (encode i) = .ok i := by
  cases i with
  | csum s => exact if_pos (Laws.EncodedLength.length_byte (of_decide_eq_true h)).symm
  | cval s c => exact decodeCval_of_length _ (Laws.EncodedLength.length_byte (of_decide_eq_true h)).symm c
  | fdec rd p0 p1 p2 p3 => cases rd <;> rfl
  | _ => rfl

/-- A `CSUM` frame is one whose length byte counts the rest (R65). -/
theorem encode_csum_of_length {n : Byte} {s : List Byte} (h : s.length = n.toNat) :
    (Instr.csum s).wellFormed = true ∧ encode (.csum s) = 0x04 :: n :: s :=
  ⟨decide_eq_true (length_le_vlenMax h), by rw [encode, lengthByte_eq h]⟩

/-- A `CVAL` frame is one whose length byte counts the rest but its last byte (R65). -/
theorem encode_cval_of_length {n : Byte} {s : List Byte} (h : s.length = n.toNat) (c : Byte) :
    (Instr.cval s c).wellFormed = true ∧ encode (.cval s c) = 0x05 :: n :: (s ++ [c]) :=
  ⟨decide_eq_true (length_le_vlenMax h), by rw [encode, lengthByte_eq h]⟩

/-- A frame the decoder accepts is the encoding of the operation, to its last byte (R66, R69). -/
theorem encode_of_decode {f : Frame} {i : Instr} (h : decode f = .ok i) : i.wellFormed = true ∧ encode i = f := by
  unfold decode at h
  split at h
  next => cases h
  next op rest =>
    split_ifs at h with _ _ _ hcsum hcval _ _ _ hfdec hmdec
    iterate 3 -- CRCINIT, CRCUPD, CRCCHK
      · subst op
        split at h <;> cases h
        exact ⟨rfl, rfl⟩
    · obtain ⟨n, s, hn, rfl, rfl⟩ := decodeCsum_eq_ok h
      exact hcsum ▸ encode_csum_of_length hn
    · obtain ⟨n, s, c, hn, rfl, rfl⟩ := decodeCval_eq_ok h
      exact hcval ▸ encode_cval_of_length hn c
    iterate 3 -- WCHK, ARGF, RDYW
      · subst op
        split at h <;> cases h
        exact ⟨rfl, rfl⟩
    · obtain ⟨rd, p0, p1, p2, p3, hrd, rfl, rfl⟩ := decodeFdec_eq_ok h
      exact ⟨rfl, congrArg (· :: _) (fdec_opcode_of_selector rd op hfdec hrd)⟩
    · obtain ⟨w0, w1, w2, w3, w4, w5, rfl, rfl⟩ := decodeMdec_eq_ok h
      exact ⟨rfl, hmdec ▸ rfl⟩

/-- The decoder, in one line: a frame decodes to the well-formed operation it encodes, and to nothing else (R69). -/
theorem decode_eq_ok_iff (f : Frame) (i : Instr) : decode f = .ok i ↔ i.wellFormed = true ∧ f = encode i :=
  ⟨fun h => ⟨(encode_of_decode h).1, (encode_of_decode h).2.symm⟩, fun ⟨hwf, hf⟩ => hf ▸ decode_encode hwf⟩

/-- For an operation whose operands have their bounds in their types, only the frame matters (R69). -/
theorem decode_eq_ok_iff_of_wellFormed {i : Instr} (h : i.wellFormed = true) (f : Frame) :
    decode f = .ok i ↔ f = encode i :=
  (decode_eq_ok_iff f i).trans (and_iff_right h)

/-- A frame decodes to a `CSUM` exactly when its length byte counts the sequence (R65, R69). -/
theorem decode_eq_csum_iff (f : Frame) (s : List Byte) :
    decode f = .ok (.csum s) ↔ ∃ n : Byte, n.toNat = s.length ∧ f = 0x04 :: n :: s := by
  rw [exists_lengthByte_iff s fun n => f = 0x04 :: n :: s, decode_eq_ok_iff, Instr.wellFormed_csum]
  rfl

/-- A frame decodes to a `CVAL` exactly when its length byte counts the sequence and one byte follows (R65, R69). -/
theorem decode_eq_cval_iff (f : Frame) (s : List Byte) (c : Byte) :
    decode f = .ok (.cval s c) ↔ ∃ n : Byte, n.toNat = s.length ∧ f = 0x05 :: n :: (s ++ [c]) := by
  rw [exists_lengthByte_iff s fun n => f = 0x05 :: n :: (s ++ [c]), decode_eq_ok_iff, Instr.wellFormed_cval]
  rfl

/-! ## The opcode map and the required length -/

/-- The length a frame must have, once its opcode has a format (R61, R66). -/
theorem requiredLength_cons_of_format {op : Byte} {fmt : Format} (h : formatOfOpcode op = some fmt)
    (rest : List Byte) : requiredLength (op :: rest) = some (fmt.length (rest.headD 0).toNat) := by
  rw [requiredLength, h, Option.map_some]

/-- A byte 0 without a format requires no length that a frame could have (R67). -/
theorem requiredLength_cons_of_no_format {op : Byte} (h : formatOfOpcode op = none) (rest : List Byte) :
    requiredLength (op :: rest) = none := by
  rw [requiredLength, h, Option.map_none]

/-- No byte 0 is selected by two rows: two matches that differ do so under both masks (R62). -/
theorem opcodeRow_unique {op : Byte} {a b : OpcodeRow} (ha : a ∈ opcodeTable) (hb : b ∈ opcodeTable)
    (hopa : op &&& a.mask = a.value) (hopb : op &&& b.mask = b.value) : a = b := by
  have hvalues : a.value &&& b.mask = b.value &&& a.mask :=
    calc a.value &&& b.mask = (op &&& a.mask) &&& b.mask := by rw [hopa]
      _ = (op &&& b.mask) &&& a.mask := by rw [BitVec.and_assoc, BitVec.and_comm a.mask, BitVec.and_assoc]
      _ = b.value &&& a.mask := by rw [hopb]
  exact (by decide : ∀ a ∈ opcodeTable, ∀ b ∈ opcodeTable, a.value &&& b.mask = b.value &&& a.mask → a = b)
    a ha b hb hvalues

/-- Looking a byte 0 up in the map finds the row that selects it (R62). -/
theorem find?_selects_eq_some_iff (op : Byte) (row : OpcodeRow) :
    opcodeTable.find? (fun r => r.selects op) = some row ↔ row ∈ opcodeTable ∧ op &&& row.mask = row.value := by
  have hsound : ∀ {r : OpcodeRow}, opcodeTable.find? (fun r => r.selects op) = some r →
      r ∈ opcodeTable ∧ op &&& r.mask = r.value := fun h =>
    ⟨List.mem_of_find?_eq_some h, beq_iff_eq.mp (List.find?_some (p := fun r : OpcodeRow => r.selects op) h)⟩
  refine ⟨hsound, fun ⟨hmem, hsel⟩ => ?_⟩
  cases hfind : opcodeTable.find? fun r : OpcodeRow => r.selects op with
  | none => exact absurd (beq_iff_eq.mpr hsel) (List.find?_eq_none.mp hfind row hmem)
  | some r => rw [opcodeRow_unique (hsound hfind).1 hmem (hsound hfind).2 hsel]

/-- The format of a byte 0 is that of the row that selects it, but for the reserved byte 0x23 (R62, R63). -/
theorem formatOfOpcode_eq_some_iff (op : Byte) (fmt : Format) :
    formatOfOpcode op = some fmt ↔
      op ≠ 0x23 ∧ ∃ row ∈ opcodeTable, op &&& row.mask = row.value ∧ row.format = fmt := by
  simp only [formatOfOpcode, Option.ite_none_left_eq_some, Option.map_eq_some_iff, find?_selects_eq_some_iff, and_assoc,
    ne_eq]

/-- A byte 0 that no row selects is reserved (R67). -/
theorem formatOfOpcode_eq_none_of_no_row {op : Byte} (h : ∀ row ∈ opcodeTable, op &&& row.mask ≠ row.value) :
    formatOfOpcode op = none := by
  rw [Option.eq_none_iff_forall_ne_some]
  intro fmt hfmt
  obtain ⟨-, row, hmem, hsel, -⟩ := (formatOfOpcode_eq_some_iff op fmt).mp hfmt
  exact h row hmem hsel

/-- Byte 0 of an operation's frame selects the row with the operation's mnemonic (R62). -/
theorem exists_row_of_encode {i : Instr} {op : Byte} {rest : List Byte} (h : encode i = op :: rest) :
    ∃ row ∈ opcodeTable, op &&& row.mask = row.value ∧ row.mnemonic = i.mnemonic := by
  have hrow : (opcodeTable.find? fun r => r.selects op).map OpcodeRow.mnemonic = some i.mnemonic := by
    cases i with
    | fdec rd p0 p1 p2 p3 => cases h; cases rd <;> rfl
    | _ => cases h; rfl
  obtain ⟨row, hfind, hname⟩ := Option.map_eq_some_iff.mp hrow
  obtain ⟨hmem, hsel⟩ := (find?_selects_eq_some_iff op row).mp hfind
  exact ⟨row, hmem, hsel, hname⟩

/-- The encoding of a well-formed operation has the length its opcode requires (R61, R66). -/
theorem requiredLength_encode (i : Instr) : Laws.EncodedLength.Statement i := by
  cases i with
  | crcinit => exact Laws.EncodedLength.crcinit
  | crcupd b => exact Laws.EncodedLength.crcupd b
  | crcchk c => exact Laws.EncodedLength.crcchk c
  | csum s => exact Laws.EncodedLength.csum s
  | cval s c => exact Laws.EncodedLength.cval s c
  | wchk w => exact Laws.EncodedLength.wchk w
  | argf a0 a1 => exact Laws.EncodedLength.argf a0 a1
  | rdyw w => exact Laws.EncodedLength.rdyw w
  | fdec rd p0 p1 p2 p3 => exact Laws.EncodedLength.fdec rd p0 p1 p2 p3
  | mdec w0 w1 w2 w3 w4 w5 => exact Laws.EncodedLength.mdec w0 w1 w2 w3 w4 w5

/-- A frame the decoder accepts has the length its opcode requires (R66). -/
theorem requiredLength_of_decode {f : Frame} {i : Instr} (h : decode f = .ok i) :
    requiredLength f = some f.length := by
  obtain ⟨hwf, rfl⟩ := encode_of_decode h
  exact requiredLength_encode i hwf

/-- The bytes that select an operation are the twelve assigned ones (R67). -/
theorem formatOfOpcode_eq_none_iff :
    ∀ op : Byte, formatOfOpcode op = none ↔ op ∉ Safety.assignedOpcodes := by
  decide +kernel

/-- A frame whose opcode requires a length, and that has it, is the encoding of a well-formed operation (R66). -/
theorem exists_encode_of_requiredLength {f : Frame} (h : requiredLength f = some f.length) :
    ∃ i : Instr, i.wellFormed = true ∧ encode i = f := by
  obtain _ | ⟨op, rest⟩ := f
  · cases h
  have hassigned : op ∈ Safety.assignedOpcodes := by
    by_contra hop
    rw [requiredLength_cons_of_no_format ((formatOfOpcode_eq_none_iff op).mpr hop)] at h
    cases h
  have hlen : ∀ {fmt : Format}, formatOfOpcode op = some fmt → rest.length + 1 = fmt.length (rest.headD 0).toNat :=
    fun hfmt => Option.some.inj (h.symm.trans (requiredLength_cons_of_format hfmt rest))
  simp only [Safety.assignedOpcodes, List.mem_cons, List.not_mem_nil, or_false] at hassigned
  have hfdec : ∀ rd : FrReg, op = 0x20 ||| rd.selector.setWidth 8 → formatOfOpcode op = some .f →
      ∃ i : Instr, i.wellFormed = true ∧ encode i = op :: rest := by
    intro rd hop hfmt
    obtain ⟨p0, p1, p2, p3, rfl⟩ := List.length_eq_four.mp (Nat.succ.inj (hlen hfmt))
    exact ⟨.fdec rd p0 p1 p2 p3, rfl, hop ▸ rfl⟩
  rcases hassigned with rfl | rfl | rfl | rfl | rfl | rfl | rfl | rfl | rfl | rfl | rfl | rfl
  · obtain rfl := List.length_eq_zero_iff.mp (Nat.succ.inj (hlen rfl))
    exact ⟨.crcinit, rfl, rfl⟩
  · obtain ⟨b, rfl⟩ := List.length_eq_one_iff.mp (Nat.succ.inj (hlen rfl))
    exact ⟨.crcupd b, rfl, rfl⟩
  · obtain ⟨c, rfl⟩ := List.length_eq_one_iff.mp (Nat.succ.inj (hlen rfl))
    exact ⟨.crcchk c, rfl, rfl⟩
  · obtain ⟨n, s, hn, rfl⟩ := exists_lengthByte_of_length (hlen rfl)
    exact ⟨.csum s, encode_csum_of_length hn⟩
  · obtain ⟨n, s, c, hn, rfl⟩ := exists_lengthByte_checksum_of_length (hlen rfl)
    exact ⟨.cval s c, encode_cval_of_length hn c⟩
  · obtain ⟨d0, d1, c, rfl⟩ := List.length_eq_three.mp (Nat.succ.inj (hlen rfl))
    exact ⟨.wchk ⟨d0, d1, c⟩, rfl, rfl⟩
  · obtain ⟨a0, a1, rfl⟩ := List.length_eq_two.mp (Nat.succ.inj (hlen rfl))
    exact ⟨.argf a0 a1, rfl, rfl⟩
  · obtain ⟨d0, d1, c, rfl⟩ := List.length_eq_three.mp (Nat.succ.inj (hlen rfl))
    exact ⟨.rdyw ⟨d0, d1, c⟩, rfl, rfl⟩
  · exact hfdec .fr0 rfl rfl
  · exact hfdec .fr1 rfl rfl
  · exact hfdec .fr2 rfl rfl
  · obtain ⟨w0, w1, w2, w3, w4, w5, rfl⟩ := exists_words_of_length (Nat.succ.inj (hlen rfl))
    exact ⟨.mdec w0 w1 w2 w3 w4 w5, rfl, rfl⟩

/-- The decoder accepts exactly the frames of the length their opcode requires (R66, R69). -/
theorem decode_ok_iff_requiredLength (f : Frame) :
    (∃ i : Instr, decode f = .ok i) ↔ requiredLength f = some f.length := by
  constructor
  · rintro ⟨i, h⟩
    exact requiredLength_of_decode h
  · intro h
    obtain ⟨i, hwf, rfl⟩ := exists_encode_of_requiredLength h
    exact ⟨i, decode_encode hwf⟩

end Sys2Proof
end

section
/-! SUPPORT. Refused frames by the length their opcode requires (30_encoding.md R66, R67), and sequences of operations
(R65, R72). -/

namespace Sys2Proof.Machine

/-- Operations after others go on from the state those left (R51). -/
theorem execSeq_append (is js : List Instr) (s : State) :
    execSeq (is ++ js) s = andThen (execSeq is s) (execSeq js) := by
  induction is generalizing s with
  | nil => rfl
  | cons i is ih => rw [List.cons_append, execSeq, execSeq, exec_eq, andThen_next, andThen_next, ih]

/-- A single operation as a sequence. -/
theorem execSeq_singleton (i : Instr) (s : State) : execSeq [i] s = .next (stateAfter i s) := by
  rw [execSeq, exec_eq, andThen_next, execSeq]

/-- The streamed form leaves the checksum of its bytes in `CRC`, whatever their number, and no other register changed
(R65, R84 (b)). -/
theorem execSeq_streamed (bytes : List Byte) (s : State) :
    ∃ t : State, execSeq (streamed bytes) s = .next t ∧ t.inputs = s.inputs ∧
      t.regs = { s.regs with crc := computeChecksum bytes } := by
  obtain ⟨t, hrun, hinputs, hregs⟩ := execSeq_map_crcupd bytes (stateAfter .crcinit s)
  refine ⟨t, ?_, hinputs, ?_⟩
  · rw [streamed, execSeq, exec_eq, andThen_next, hrun]
  · rw [hregs, computeChecksum_eq_foldl]
    rfl

/-- `CRCCHK` on a state whose `CRC` is a sequence's checksum validates that sequence (R83, R88). -/
theorem stateAfter_crcchk_v {bytes : List Byte} {t : State} (h : t.regs.crc = computeChecksum bytes) (c : Byte) :
    (stateAfter (.crcchk c) t).regs.v = validate bytes c := by
  show (t.regs.crc == c) = validate bytes c
  rw [h, validate]

/-- `FDEC` leaves the decoded pattern in the register it names (R103). -/
theorem stateAfter_fdec_fr (rd : FrReg) (p0 p1 p2 p3 : Byte) (s : State) :
    (stateAfter (.fdec rd p0 p1 p2 p3) s).regs.fr rd = decodeFloat p0 p1 p2 p3 := by
  simp only [stateAfter, RegWrites.apply_fr, writesOf, if_pos, Option.getD_some]

/-- `WCHK` leaves the float registers (R32, R111). -/
theorem stateAfter_wchk_fr (w : RespWord) (s : State) (q : FrReg) :
    (stateAfter (.wchk w) s).regs.fr q = s.regs.fr q := by
  rw [stateAfter, RegWrites.apply_fr, writesOf, Option.getD_none]

/-- `FDECV` is two `WCHK`, and an `FDEC` when both words are valid (R72). -/
theorem runFdecv_eq (rd : FrReg) (w0 w1 : RespWord) (s : State) :
    runFdecv rd w0 w1 s =
      let checked := stateAfter (.wchk w1) (stateAfter (.wchk w0) s)
      if wordValid w0 && wordValid w1 then .next (stateAfter (.fdec rd w0.d0 w0.d1 w1.d0 w1.d1) checked)
      else .next checked := by
  simp only [runFdecv, exec_eq, andThen_next]
  rfl

end Sys2Proof.Machine

namespace Sys2Proof.Safety

open Sys2Proof.Machine

/-- `FDECV` of two valid words writes the float (R72). -/
theorem runFdecv_of_validPair {w0 w1 : RespWord} (h : ValidPair w0 w1) (rd : FrReg) (s : State) :
    runFdecv rd w0 w1 s = .next (stateAfter (.fdec rd w0.d0 w0.d1 w1.d0 w1.d1)
      (stateAfter (.wchk w1) (stateAfter (.wchk w0) s))) :=
  (runFdecv_eq rd w0 w1 s).trans (if_pos (Bool.and_eq_true_iff.mpr h))

/-- `FDECV` with a bad word ends after the two checks (R72). -/
theorem runFdecv_of_not_validPair {w0 w1 : RespWord} (h : ¬ ValidPair w0 w1) (rd : FrReg) (s : State) :
    runFdecv rd w0 w1 s = .next (stateAfter (.wchk w1) (stateAfter (.wchk w0) s)) :=
  (runFdecv_eq rd w0 w1 s).trans (if_neg (mt Bool.and_eq_true_iff.mp h))

/-- A frame that decodes to no operation is `IllegalOp` (R69, R142). -/
theorem rejected_of_decode_ne_ok {f : Frame} (h : ∀ i, decode f ≠ .ok i) : Rejected f := by
  cases hdec : decode f with
  | ok i => exact absurd hdec (h i)
  | error e => exact rejected_of_decode_error hdec

/-- A frame without the length its opcode requires is `IllegalOp` (R66). -/
theorem rejected_of_requiredLength_ne {f : Frame} (h : requiredLength f ≠ some f.length) : Rejected f :=
  rejected_of_decode_ne_ok fun _ hdec => h (requiredLength_of_decode hdec)

/-- A byte 0 without a format is `IllegalOp` whatever follows (R67). -/
theorem rejected_of_no_format {op : Byte} (h : formatOfOpcode op = none) (rest : List Byte) :
    Rejected (op :: rest) :=
  rejected_of_requiredLength_ne (by rw [requiredLength_cons_of_no_format h]; exact nofun)

/-- A frame that starts with an opcode and does not have the length of the opcode's format is `IllegalOp` (R66). -/
theorem rejected_of_length_ne {op : Byte} {fmt : Format} (hfmt : formatOfOpcode op = some fmt) {rest : List Byte}
    (h : rest.length + 1 ≠ fmt.length (rest.headD 0).toNat) : Rejected (op :: rest) := by
  apply rejected_of_requiredLength_ne
  rw [requiredLength_cons_of_format hfmt]
  exact fun hlen => h (Option.some.inj hlen).symm

/-- For an opcode of a fixed-length format, every frame of another length is `IllegalOp` (R66). -/
theorem rejected_of_fixed_length_ne {op : Byte} {fmt : Format} {k : Nat} (hfmt : formatOfOpcode op = some fmt)
    (hk : ∀ n, fmt.length n = k) {f : Frame} (hhead : f.head? = some op) (hlen : f.length ≠ k) : Rejected f := by
  obtain ⟨rest, rfl⟩ := List.head?_eq_some_iff.mp hhead
  exact rejected_of_length_ne hfmt (hk _ ▸ hlen)

/-- A `CSUM` frame whose length byte does not count the rest is `IllegalOp` (R65, R66). -/
theorem rejected_csum_of_length_ne {n : Byte} {t : List Byte} (h : t.length ≠ n.toNat) :
    Rejected (0x04 :: n :: t) := by
  apply rejected_of_length_ne (fmt := .v) rfl
  rw [Format.length, List.length_cons, List.headD_cons]
  omega

/-- A `CVAL` frame whose length byte does not count the rest but one is `IllegalOp` (R65, R66). -/
theorem rejected_cval_of_length_ne {n : Byte} {t : List Byte} (h : t.length ≠ n.toNat + 1) :
    Rejected (0x05 :: n :: t) := by
  apply rejected_of_length_ne (fmt := .vc) rfl
  rw [Format.length, List.length_cons, List.headD_cons]
  omega

end Sys2Proof.Safety
end

section
/-! The statements of the family 30_encoding.md. -/

namespace Sys2Proof.Proofs

open Sys2Proof.Machine Sys2Proof.Safety

/-- Settles O2: each line is `decode_eq_ok_iff` at one operation; the two lines with a length byte say which byte it
is. -/
theorem decoderAcceptsExactly : Obligations.DecoderAcceptsExactly := fun f =>
  ⟨decode_eq_ok_iff_of_wellFormed rfl f, fun _ => decode_eq_ok_iff_of_wellFormed rfl f,
    fun _ => decode_eq_ok_iff_of_wellFormed rfl f, decode_eq_csum_iff f, decode_eq_cval_iff f,
    fun _ _ _ => decode_eq_ok_iff_of_wellFormed rfl f, fun _ _ => decode_eq_ok_iff_of_wellFormed rfl f,
    fun _ _ _ => decode_eq_ok_iff_of_wellFormed rfl f, fun _ _ _ _ => decode_eq_ok_iff_of_wellFormed rfl f,
    fun _ _ _ _ => decode_eq_ok_iff_of_wellFormed rfl f, fun _ _ _ _ => decode_eq_ok_iff_of_wellFormed rfl f,
    fun _ _ _ _ _ _ => decode_eq_ok_iff_of_wellFormed rfl f, rejected_of_decode_ne_ok⟩

/-- Settles O3: each opcode's format fixes the length, by its length byte for `CSUM` and `CVAL`. -/
theorem wrongLengthRejected : Obligations.WrongLengthRejected :=
  ⟨fun _ => rejected_of_fixed_length_ne (fmt := .n) rfl fun _ => rfl,
    fun _ => rejected_of_fixed_length_ne (fmt := .b) rfl fun _ => rfl,
    fun _ => rejected_of_fixed_length_ne (fmt := .b) rfl fun _ => rfl,
    fun _ _ => rejected_csum_of_length_ne, rejected_of_length_ne (fmt := .v) rfl (by decide),
    fun _ _ => rejected_cval_of_length_ne, rejected_of_length_ne (fmt := .vc) rfl (by decide),
    fun _ => rejected_of_fixed_length_ne (fmt := .w) rfl fun _ => rfl,
    fun _ => rejected_of_fixed_length_ne (fmt := .h) rfl fun _ => rfl,
    fun _ => rejected_of_fixed_length_ne (fmt := .w) rfl fun _ => rfl,
    fun _ => rejected_of_fixed_length_ne (fmt := .f) rfl fun _ => rfl,
    fun _ => rejected_of_fixed_length_ne (fmt := .f) rfl fun _ => rfl,
    fun _ => rejected_of_fixed_length_ne (fmt := .f) rfl fun _ => rfl,
    fun _ => rejected_of_fixed_length_ne (fmt := .m) rfl fun _ => rfl,
    fun _ _ h => (encode_of_decode h).2⟩

/-- Settles O4: a byte outside the assigned ones has no format. -/
theorem reservedOpcodesRejected : Obligations.ReservedOpcodesRejected :=
  ⟨fun op rest hop => rejected_of_no_format ((formatOfOpcode_eq_none_iff op).mpr hop) rest, by decide +kernel,
    by decide, by decide, by decide⟩

/-- A frame the decoder accepts has a row of the map that selects its byte 0, gives its length, and names the operation
(R62). -/
theorem exists_row_of_decode {op : Byte} {rest : List Byte} {i : Instr} (h : decode (op :: rest) = .ok i) :
    ∃ row ∈ opcodeTable, op &&& row.mask = row.value ∧ row.mnemonic = i.mnemonic ∧
      (op :: rest).length = row.format.length (rest.headD 0).toNat := by
  obtain ⟨row, hmem, hsel, hname⟩ := exists_row_of_encode (encode_of_decode h).2
  have hlen := requiredLength_of_decode h
  cases hfmt : formatOfOpcode op with
  | none => cases (requiredLength_cons_of_no_format hfmt rest).symm.trans hlen
  | some fmt =>
    obtain ⟨-, row', hmem', hsel', rfl⟩ := (formatOfOpcode_eq_some_iff op fmt).mp hfmt
    obtain rfl := opcodeRow_unique hmem hmem' hsel hsel'
    exact ⟨row, hmem, hsel, hname, Option.some.inj (hlen.symm.trans (requiredLength_cons_of_format hfmt rest))⟩

/-- A frame whose byte 0 a row selects, 0x23 apart, and whose length is the row's decodes to the operation the row
names: it decodes to some operation, whose row can only be this one (R62). -/
theorem exists_decode_of_row {row : OpcodeRow} {op : Byte} {rest : List Byte} (hmem : row ∈ opcodeTable)
    (hop : op ≠ 0x23) (hsel : op &&& row.mask = row.value)
    (hlen : (op :: rest).length = row.format.length (rest.headD 0).toNat) :
    ∃ i : Instr, decode (op :: rest) = .ok i ∧ i.mnemonic = row.mnemonic := by
  have hfmt : formatOfOpcode op = some row.format :=
    (formatOfOpcode_eq_some_iff op _).mpr ⟨hop, row, hmem, hsel, rfl⟩
  have hreq : requiredLength (op :: rest) = some (op :: rest).length :=
    (requiredLength_cons_of_format hfmt rest).trans (congrArg some hlen.symm)
  obtain ⟨i, hdec⟩ := (decode_ok_iff_requiredLength _).mpr hreq
  obtain ⟨row', hmem', hsel', hname, -⟩ := exists_row_of_decode hdec
  exact ⟨i, hdec, opcodeRow_unique hmem' hmem hsel' hsel ▸ hname.symm⟩

/-- Settles O5: the map's rows do not overlap, so looking a byte 0 up finds the one row that selects it. -/
theorem opcodeMapSelects : Obligations.OpcodeMapSelects :=
  ⟨rfl, fun _ hmem _ _ hop hsel hlen => exists_decode_of_row hmem hop hsel hlen,
    fun _ _ _ h => exists_row_of_decode h,
    fun _ _ _ ha hb hopa hopb => opcodeRow_unique ha hb hopa hopb,
    fun _ rest h => rejected_of_no_format (formatOfOpcode_eq_none_of_no_row h) rest⟩

/-- Settles O6: the three selectors are encodings of `FDEC`; 0x23 carries the fourth, which names no register. -/
theorem fdecRegisterField : Obligations.FdecRegisterField :=
  ⟨fun p0 p1 p2 p3 =>
    ⟨decode_encode (i := .fdec .co2 p0 p1 p2 p3) rfl, decode_encode (i := .fdec .temp p0 p1 p2 p3) rfl,
      decode_encode (i := .fdec .hum p0 p1 p2 p3) rfl⟩,
    rfl, fun rest => rejected_of_decode_error (decode_reserved_selector rest)⟩

/-- Only the formats V and VC look at the length byte (R61, R65). -/
theorem formatLength_eq_of_fixed {fmt : Format} (hv : fmt ≠ .v) (hvc : fmt ≠ .vc) (n m : Nat) :
    fmt.length n = fmt.length m := by
  cases fmt with
  | v => exact absurd rfl hv
  | vc => exact absurd rfl hvc
  | _ => rfl

/-- Settles O7: the length byte counts the sequence or the frame is refused; the streamed form needs no count. -/
theorem variableLengthForms : Obligations.VariableLengthForms := by
  refine ⟨fun fmt n m hv hvc => formatLength_eq_of_fixed hv hvc n m,
    fun n s => ⟨fun h => (decode_eq_csum_iff _ s).mpr ⟨n, h.symm, rfl⟩, rejected_csum_of_length_ne⟩,
    fun n c s => ⟨fun h => (decode_eq_cval_iff _ s c).mpr ⟨n, h.symm, rfl⟩, fun h => rejected_cval_of_length_ne ?_⟩,
    decode_encode (i := .csum []) rfl, fun c => decode_encode (i := .cval [] c) rfl,
    fun f s h => (Instr.wellFormed_csum s).mp (encode_of_decode h).1,
    fun f s c h => (Instr.wellFormed_cval s c).mp (encode_of_decode h).1, fun s c st => ?_⟩
  · rw [List.length_append, List.length_singleton]
    exact fun hlen => h (Nat.add_right_cancel hlen)
  · obtain ⟨t, hrun, -, hregs⟩ := execSeq_streamed s st
    have hcrc : t.regs.crc = computeChecksum s := by rw [hregs]
    exact ⟨t, _, hrun, hcrc, exec_eq _ t, stateAfter_crcchk_v hcrc c⟩

/-- Settles O54: each expansion is a known sequence of operations; `FDECV` is split on whether both words validate. -/
theorem pseudoOperations : Obligations.PseudoOperations := by
  refine ⟨fun bytes s => ⟨_, execSeq_singleton _ s, rfl, rfl⟩, fun bytes c s => ⟨_, execSeq_singleton _ s, rfl, rfl⟩,
    fun rd p0 p1 p2 p3 s => ⟨_, execSeq_singleton _ s, stateAfter_fdec_fr rd p0 p1 p2 p3 s⟩,
    fun v s => ⟨_, execSeq_singleton _ s, rfl⟩, fun bytes s => ?csums, fun bytes c s => ?cvals,
    fun rd w0 w1 s h => ⟨_, runFdecv_of_validPair h rd s, stateAfter_fdec_fr rd _ _ _ _ _⟩,
    fun rd w0 w1 s h => ⟨_, runFdecv_of_not_validPair h rd s, fun q => ?kept⟩⟩
  case csums =>
    obtain ⟨t, hrun, -, hregs⟩ := execSeq_streamed bytes s
    exact ⟨t, hrun, by rw [hregs]⟩
  case cvals =>
    obtain ⟨t, hrun, -, hregs⟩ := execSeq_streamed bytes s
    refine ⟨stateAfter (.crcchk c) t, ?_, stateAfter_crcchk_v (by rw [hregs]) c⟩
    rw [expand, execSeq_append, hrun, andThen_next, execSeq_singleton]
  case kept => rw [stateAfter_wchk_fr, stateAfter_wchk_fr]

end Sys2Proof.Proofs
end

section
/-! SUPPORT. The checksum functions as a polynomial remainder (40_checksum_engine.md R80 to R82), and the states the
checksum-engine operations leave to one another. -/

namespace Sys2Proof.Machine

/-! ## The byte step -/

/-- The iterations are function iteration (R81). -/
theorem crcShifts_eq_iterate (k : Nat) (t : Byte) : crcShifts k t = crcShift^[k] t := by
  induction k generalizing t with
  | zero => rfl
  | succ k ih => rw [crcShifts, ih, Function.iterate_succ_apply]

/-- The top bit of a byte is set when the byte is 128 or more. -/
theorem getLsbD_seven_eq_true_iff (t : Byte) : t.getLsbD 7 = true ↔ 128 ≤ t.toNat := by
  have hmsb : t.getLsbD 7 = decide (2 ^ 7 ≤ t.toNat) := BitVec.msb_eq_decide t
  rw [hmsb, decide_eq_true_iff]
  rfl

/-- A byte shifted left by one is its double, modulo 256. -/
theorem shiftLeft_one_eq_ofNat_double (t : Byte) : t <<< 1 = BitVec.ofNat 8 (2 * t.toNat % 256) := by
  rw [BitVec.shiftLeft_eq_mul_twoPow]
  apply BitVec.eq_of_toNat_eq
  simp only [BitVec.toNat_mul, BitVec.toNat_twoPow, BitVec.toNat_ofNat]
  omega

/-- One iteration on numbers: double modulo 256, with an XOR of 0x31 when the value was 128 or more (R81). -/
theorem crcShift_eq_double (t : Byte) :
    crcShift t = if 128 ≤ t.toNat then BitVec.ofNat 8 (2 * t.toNat % 256) ^^^ 0x31
      else BitVec.ofNat 8 (2 * t.toNat) := by
  simp only [crcShift, getLsbD_seven_eq_true_iff, shiftLeft_one_eq_ofNat_double, Config.crcPoly]
  split
  case isTrue => rfl
  case isFalse h => rw [Nat.mod_eq_of_lt (by omega)]

/-- The byte that equals the running value brings it to zero (R87). -/
theorem crc8Step_self (r : Byte) : crc8Step r r = 0 := by
  rw [crc8Step, BitVec.xor_self]
  rfl

/-! ## The checksum -/

@[simp] theorem computeChecksum_nil : computeChecksum [] = 0xFF := rfl

/-- The two steps of R87's example, from 0xFF over 0xBE and 0xEF. -/
theorem crc8Step_BE_EF : crc8Step 0xFF 0xBE = 0x0C ∧ crc8Step 0x0C 0xEF = 0x92 := by
  decide

/-- The checksum of the example of R89 and R90 is what the two steps of R87 leave. -/
theorem computeChecksum_BE_EF : computeChecksum [0xBE, 0xEF] = 0x92 := by
  rw [computeChecksum_eq_foldl, List.foldl_cons, crc8Step_BE_EF.1, List.foldl_cons, crc8Step_BE_EF.2, List.foldl_nil]

/-- One more byte is one more step (R82, R87). -/
theorem computeChecksum_concat (s : List Byte) (b : Byte) :
    computeChecksum (s ++ [b]) = crc8Step (computeChecksum s) b := by
  simp only [computeChecksum_eq_foldl, List.foldl_concat]

/-- `CRCCHK c` leaves in `V` whether `CRC` is `c` (R88). -/
theorem stateAfter_crcchk_v_eq_true_iff (c : Byte) (s : State) :
    (stateAfter (.crcchk c) s).regs.v = true ↔ s.regs.crc = c :=
  beq_iff_eq

end Sys2Proof.Machine

namespace Sys2Proof.Safety

open Sys2Proof.Machine

/-! ## Multiples of the generator -/

/-- Coefficient `k` of the quotient adds the generator times x^`k` to a sum over GF(2): one term of
`generatorMultiple`. -/
def addGenerator (q : Byte) (acc : BitVec 16) (k : Nat) : BitVec 16 :=
  if q.getLsbD k then acc ^^^ ((0x131 : BitVec 16) <<< k) else acc

theorem generatorMultiple_eq_foldl (q : Byte) : generatorMultiple q = (List.range 8).foldl (addGenerator q) 0 := rfl

/-- One term is linear over XOR; where both quotients have the coefficient, the two terms cancel. -/
theorem addGenerator_xor (p q : Byte) (x y : BitVec 16) (k : Nat) :
    addGenerator (p ^^^ q) (x ^^^ y) k = addGenerator p x k ^^^ addGenerator q y k := by
  simp only [addGenerator, BitVec.getLsbD_xor]
  generalize (0x131 : BitVec 16) <<< k = g
  cases p.getLsbD k <;> cases q.getLsbD k
  case false.false => rfl
  case false.true => exact BitVec.xor_assoc x y g
  case true.false => exact (by ac_rfl : x ^^^ y ^^^ g = x ^^^ g ^^^ y)
  case true.true =>
    show x ^^^ y = x ^^^ g ^^^ (y ^^^ g)
    rw [BitVec.xor_comm y g, BitVec.xor_assoc, ← BitVec.xor_assoc g g y, BitVec.xor_self, BitVec.zero_xor]

theorem foldl_addGenerator_xor (ks : List Nat) (p q : Byte) (x y : BitVec 16) :
    ks.foldl (addGenerator (p ^^^ q)) (x ^^^ y) = ks.foldl (addGenerator p) x ^^^ ks.foldl (addGenerator q) y := by
  induction ks generalizing x y with
  | nil => rfl
  | cons k ks ih => rw [List.foldl_cons, addGenerator_xor, ih, List.foldl_cons, List.foldl_cons]

/-- The product with the generator is linear over XOR. -/
theorem generatorMultiple_xor (p q : Byte) :
    generatorMultiple (p ^^^ q) = generatorMultiple p ^^^ generatorMultiple q := by
  rw [generatorMultiple_eq_foldl p, generatorMultiple_eq_foldl q, ← foldl_addGenerator_xor]
  exact generatorMultiple_eq_foldl (p ^^^ q)

/-- The product of x^`k` with the generator is the generator shifted by `k`. -/
theorem generatorMultiple_one_shiftLeft : ∀ k < 8, generatorMultiple (1 <<< k) = (0x131 : BitVec 16) <<< k := by
  decide

/-- One iteration is one step of the long division: double, and take the generator away where the top bit went over
into x^8 (R80, R81). -/
theorem setWidth_shiftLeft_one (t : Byte) :
    t.setWidth 16 <<< 1 = (if t.getLsbD 7 then (0x131 : BitVec 16) else 0#16) ^^^ (crcShift t).setWidth 16 := by
  revert t
  decide +kernel

/-- `k` iterations leave the remainder of the value times x^`k` by the generator: each iteration that takes the
generator away sets one bit of the quotient (R80, R81). -/
theorem exists_quotient_crcShifts (k : Nat) (hk : k ≤ 8) (t : Byte) :
    ∃ q : Byte, t.setWidth 16 <<< k = generatorMultiple q ^^^ (crcShifts k t).setWidth 16 := by
  induction k generalizing t with
  | zero => exact ⟨0, by rw [crcShifts, BitVec.shiftLeft_zero]; exact BitVec.zero_xor.symm⟩
  | succ k ih =>
    obtain ⟨q, hq⟩ := ih (by omega) (crcShift t)
    have hstep : t.setWidth 16 <<< (k + 1) =
        (if t.getLsbD 7 then (0x131 : BitVec 16) else 0#16) <<< k ^^^ (crcShift t).setWidth 16 <<< k := by
      rw [Nat.add_comm, BitVec.shiftLeft_add, setWidth_shiftLeft_one, BitVec.shiftLeft_xor_distrib]
    rw [hstep, hq, crcShifts]
    cases t.getLsbD 7 with
    | true =>
      refine ⟨1 <<< k ^^^ q, ?_⟩
      rw [if_pos rfl, generatorMultiple_xor, generatorMultiple_one_shiftLeft k (by omega), BitVec.xor_assoc]
    | false => exact ⟨q, by rw [if_neg Bool.false_ne_true, BitVec.zero_shiftLeft, BitVec.zero_xor]⟩

/-! ## What an operation does with `CRC` -/

/-- An operation that computes a checksum afresh answers the same whatever stood in `CRC` and whatever was answered
before (R21). -/
theorem stateAfter_of_checkedBytes {i : Instr} {bytes : List Byte} (h : checkedBytes i = some bytes) (s : State)
    (crc : Byte) (response : Option Response) :
    stateAfter i { s with regs := { s.regs with crc := crc }, response := response } = stateAfter i s := by
  cases i <;> cases h <;> rfl

/-- An operation that computes a checksum afresh leaves it in `CRC` (R21). -/
theorem stateAfter_crc_of_checkedBytes {i : Instr} {bytes : List Byte} (h : checkedBytes i = some bytes) (s : State) :
    (stateAfter i s).regs.crc = computeChecksum bytes := by
  rw [stateAfter, RegWrites.apply, writesOf_crc_of_checkedBytes h, Option.getD_some]

end Sys2Proof.Safety
end

section
/-! The statements of the family 40_checksum_engine.md. -/

namespace Sys2Proof.Proofs

open Sys2Proof.Machine Sys2Proof.Safety

/-- Settles O15: only `CRC` and the response are written, and what computes a checksum afresh reads neither. -/
theorem crcinitRule : Obligations.CrcinitRule := by
  refine ⟨exec_eq .crcinit, fun f hhead => ⟨fun hlen => ?decode, ?reject⟩, fun s t hcrc ht => ?unchanged,
    fun i s t hi ht => ?fresh, fun b => ⟨_, _, _, exec_eq _ _, exec_eq _ _, exec_eq _ _, rfl⟩⟩
  case decode =>
    obtain ⟨op, rfl⟩ := List.length_eq_one_iff.mp hlen
    cases hhead
    rfl
  case reject => exact rejected_of_fixed_length_ne (fmt := .n) rfl (fun _ => rfl) hhead
  case unchanged =>
    cases (exec_eq _ s).symm.trans ht
    show { s.regs with crc := 0xFF } = s.regs
    rw [← hcrc]
  case fresh =>
    cases (exec_eq _ s).symm.trans ht
    obtain ⟨bytes, hbytes⟩ := Option.isSome_iff_exists.mp hi
    rw [exec_eq, exec_eq]
    exact congrArg _ (stateAfter_of_checkedBytes hbytes s 0xFF _)

/-- Settles O16: the step continues from the checksum of the bytes before, and one more byte is one more step. -/
theorem crcupdRule : Obligations.CrcupdRule := by
  refine ⟨fun b => exec_eq (.crcupd b), fun b => decode_encode (i := .crcupd b) rfl,
    fun i bytes b s h => ⟨_, _, exec_eq i s, exec_eq _ _, ?_⟩,
    fun s => ⟨_, exec_eq _ s, crc8Step_self s.regs.crc⟩, crc8Step_BE_EF⟩
  rw [computeChecksum_concat, ← stateAfter_crc_of_checkedBytes h s]
  rfl

/-- Settles O17: `V` is the comparison, and `CRC` is as before for the next one. -/
theorem crcchkRule : Obligations.CrcchkRule := by
  refine ⟨fun c => exec_eq (.crcchk c), fun c => decode_encode (i := .crcchk c) rfl, ⟨_, exec_eq _ _, rfl, rfl⟩,
    fun s => ⟨_, _, exec_eq _ s, exec_eq _ _, rfl⟩, fun s hcrc => ⟨_, _, exec_eq _ s, ?same, exec_eq _ _, ?differ⟩⟩
  case same => exact (stateAfter_crcchk_v_eq_true_iff _ _).mpr hcrc
  case differ =>
    have hkept : (stateAfter (.crcchk 0x92) s).regs.crc = 0x92 := hcrc
    rw [Bool.eq_false_iff, Ne, stateAfter_crcchk_v_eq_true_iff, hkept]
    decide

/-- Settles O18: the length byte counts the sequence or the frame is refused; the streamed form is the same fold. -/
theorem csumRule : Obligations.CsumRule := by
  refine ⟨fun bytes => exec_eq (.csum bytes),
    fun n bytes => ⟨fun h => (decode_eq_csum_iff _ bytes).mpr ⟨n, h.symm, rfl⟩, rejected_csum_of_length_ne⟩,
    rejected_of_length_ne (fmt := .v) rfl (by decide), computeChecksum_nil, fun bytes s => ?_, computeChecksum_BE_EF⟩
  obtain ⟨t, hrun, -, hregs⟩ := execSeq_streamed bytes s
  exact ⟨_, t, exec_eq _ s, hrun, hregs.symm⟩

/-- Settles O19: `CRCCHK` after `CSUM` overwrites the response and compares the checksum `CSUM` left. -/
theorem cvalRule : Obligations.CvalRule := by
  refine ⟨fun bytes c => exec_eq (.cval bytes c),
    fun n c bytes h => (decode_eq_cval_iff _ bytes c).mpr ⟨n, h.symm, rfl⟩,
    fun c s => ⟨_, exec_eq _ s, ?empty⟩, fun bytes c s => ?sequence,
    fun s => ⟨_, _, exec_eq _ s, computeChecksum_BE_EF, ?same, exec_eq _ s, computeChecksum_BE_EF, ?differ⟩⟩
  case empty => exact (validate_eq_true_iff [] c).trans eq_comm
  case sequence =>
    rw [exec_eq, execSeq, exec_eq, andThen_next, execSeq_singleton]
    rfl
  case same => exact (validate_eq_true_iff _ _).mpr computeChecksum_BE_EF
  case differ =>
    show validate [0xBE, 0xEF] 0x12 = false
    rw [Bool.eq_false_iff, Ne, validate_eq_true_iff, computeChecksum_BE_EF]
    decide

/-- Settles O26: the eight iterations are eight times one iteration, which is a doubling. -/
theorem crcStepIteration : Obligations.CrcStepIteration := by
  intro r b
  rw [crc8Step, crcShifts_eq_iterate, funext crcShift_eq_double]

/-- Settles O27: eight iterations are the long division by the generator, and the checksum is the bare fold of them. -/
theorem checksumIsPolynomialCrc : Obligations.ChecksumIsPolynomialCrc :=
  ⟨fun r b => exists_quotient_crcShifts 8 le_rfl (r ^^^ b), computeChecksum_nil, computeChecksum_concat⟩

end Sys2Proof.Proofs
end

section
/-! SUPPORT. `FDEC` as a rule on states, and the two 16-bit words of a float pattern (41_measurement_decoder.md R100,
R103). -/

namespace Sys2Proof.Safety

open Sys2Proof.Machine

/-- `FDEC` writes the pattern of its four bytes to the register it names, and answers it as read back from there
(R103). -/
theorem exec_fdec (rd : FrReg) (p0 p1 p2 p3 : Byte) (s : State) :
    exec (.fdec rd p0 p1 p2 p3) s =
      .next (answered s (s.regs.setFr rd (decodeFloat p0 p1 p2 p3)) (.pattern (decodeFloat p0 p1 p2 p3))) := by
  show complete (.pattern ((s.regs.setFr rd (decodeFloat p0 p1 p2 p3)).fr rd)) (s.setFr rd _) = _
  rw [Regs.fr_setFr_self, complete_eq]
  rfl

/-- A float pattern is its two words in wire order, the first one on top (R100). -/
theorem decodeFloat_eq_append_half (p0 p1 p2 p3 : Byte) : decodeFloat p0 p1 p2 p3 = half p0 p1 ++ half p2 p3 :=
  BitVec.append_assoc (x₁ := half p0 p1)

/-- Bits 31:16 of a float pattern are its first word (R100). -/
theorem decodeFloat_high_half (p0 p1 p2 p3 : Byte) : (decodeFloat p0 p1 p2 p3).extractLsb' 16 16 = half p0 p1 := by
  rw [decodeFloat_eq_append_half, BitVec.extractLsb'_append_eq_left]

/-- Bits 15:0 of a float pattern are its second word (R100). -/
theorem decodeFloat_low_half (p0 p1 p2 p3 : Byte) : (decodeFloat p0 p1 p2 p3).extractLsb' 0 16 = half p2 p3 := by
  rw [decodeFloat_eq_append_half, BitVec.extractLsb'_append_eq_right]

end Sys2Proof.Safety
end

section
/-! The statements of the family 41_measurement_decoder.md. -/

namespace Sys2Proof.Proofs

open Sys2Proof.Machine Sys2Proof.Safety

/-- Settles O23: the pattern is `decodeFloat` of the four bytes, whose halves are the two words; the frames are the
encodings of `FDEC`. -/
theorem fdecRule : Obligations.FdecRule := by
  refine ⟨fun rd p0 p1 p2 p3 s =>
      ⟨decodeFloat p0 p1 p2 p3, decodeFloat_toNat p0 p1 p2 p3, exec_fdec rd p0 p1 p2 p3 s,
        fun q => Regs.fr_setFr s.regs rd q _⟩,
    fun f hhead hlen => ?length, fun rest => rejected_of_decode_error (decode_reserved_selector rest),
    fun p0 p1 p2 p3 => ?swap, rfl,
    fun p0 p1 p2 p3 =>
      ⟨decode_encode (i := .fdec .fr0 p0 p1 p2 p3) rfl, decode_encode (i := .fdec .fr1 p0 p1 p2 p3) rfl,
        decode_encode (i := .fdec .fr2 p0 p1 p2 p3) rfl⟩,
    rfl⟩
  case length =>
    have hreject : ∀ {op : Byte}, formatOfOpcode op = some .f → f.head? = some op → Rejected f :=
      fun hfmt hop => rejected_of_fixed_length_ne hfmt (fun _ => rfl) hop hlen
    rcases hhead with h | h | h
    · exact hreject rfl h
    · exact hreject rfl h
    · exact hreject rfl h
  case swap =>
    constructor
    · rw [decodeFloat_high_half, decodeFloat_low_half]
    · rw [decodeFloat_low_half, decodeFloat_high_half]

end Sys2Proof.Proofs
end

section
/-! SUPPORT. A 16-bit word and its checksum: the argument frame and the word check on the two bytes (42_word_codec.md
R110, R112). -/

namespace Sys2Proof.Machine

/-- The two bytes of a 16-bit value, put together again, are that value (R41). -/
@[simp] theorem half_highByte_lowByte (a : Half) : half (highByte a) (lowByte a) = a := by
  rw [half, highByte, lowByte, BitVec.extractLsb'_append_extractLsb'_eq_extractLsb' (by rfl)]
  exact BitVec.extractLsb'_eq_self

/-- The argument frame of two bytes is those bytes and their checksum (R112). -/
theorem argFrame_half (a0 a1 : Byte) : argFrame (half a0 a1) = [a0, a1, computeChecksum [a0, a1]] := by
  rw [argFrame, highByte_half, lowByte_half]

/-- The wire frame of a bare command is its two bytes (R45). -/
theorem bareCommandFrame_half (k0 k1 : Byte) : bareCommandFrame (half k0 k1) = [k0, k1] := by
  rw [bareCommandFrame, highByte_half, lowByte_half]

/-- The wire frame of a command with an argument is the bare command's, then the argument frame: the checksum does not
cover the command (R45). -/
theorem commandFrame_eq_append (k a : Half) : commandFrame k a = bareCommandFrame k ++ argFrame a := rfl

/-- The word check delivers the data whatever byte is received, and compares that byte with the checksum of the data
(R110). -/
theorem wordCheck_of_computeChecksum {d0 d1 x : Byte} (h : computeChecksum [d0, d1] = x) (c : Byte) :
    wordCheck ⟨d0, d1, c⟩ = (half d0 d1, x == c) := by
  rw [← h]
  rfl

/-- A word that carries the checksum of its own data validates (R110, R112). -/
theorem wordCheck_own_checksum (d0 d1 : Byte) :
    wordCheck ⟨d0, d1, computeChecksum [d0, d1]⟩ = (half d0 d1, true) := by
  rw [wordCheck_of_computeChecksum rfl, beq_self_eq_true]

/-- The checksum of an all-zeros word (R111, R113). -/
theorem computeChecksum_00_00 : computeChecksum [0x00, 0x00] = 0x81 := by decide +kernel

/-- The checksum of an all-ones word (R111). -/
theorem computeChecksum_FF_FF : computeChecksum [0xFF, 0xFF] = 0xAC := by decide +kernel

/-- The checksum of the example of R111 and R113. -/
theorem computeChecksum_00_02 : computeChecksum [0x00, 0x02] = 0xE3 := by decide +kernel

end Sys2Proof.Machine
end

section
/-! The statements of the family 42_word_codec.md. -/

namespace Sys2Proof.Proofs

open Sys2Proof.Machine Sys2Proof.Safety

/-- Settles O20: the write table's row of `WCHK` is `CVAL`'s with `DATA` beside it, neither column looking at the
verdict; each corner case is the checksum of its data against the byte received. -/
theorem wchkRule : Obligations.WchkRule :=
  ⟨fun d0 d1 _ s => ⟨_, exec_eq _ s, rfl, half_toNat d0 d1, rfl⟩,
    fun d0 d1 c => decode_encode (i := .wchk ⟨d0, d1, c⟩) rfl,
    fun _ _ _ s => ⟨_, _, exec_eq _ s, exec_eq _ s, rfl⟩,
    wordCheck_of_computeChecksum computeChecksum_00_00 0x81, wordCheck_of_computeChecksum computeChecksum_00_00 0x00,
    wordCheck_of_computeChecksum computeChecksum_FF_FF 0xFF, computeChecksum_FF_FF,
    wordCheck_of_computeChecksum computeChecksum_00_02 0xE3, computeChecksum_00_02⟩

/-- Settles O21: `ARGF`'s row writes `DATA` and `CRC` alone, and its answer is the argument frame of the new `DATA`. -/
theorem argfRule : Obligations.ArgfRule := by
  refine ⟨fun a0 a1 s => ⟨_, exec_eq _ s, rfl, half_toNat a0 a1, argFrame_half a0 a1⟩,
    fun a0 a1 => decode_encode (i := .argf a0 a1) rfl, computeChecksum_00_00, ?_⟩
  rw [← computeChecksum_00_02]
  exact argFrame_half 0x00 0x02

/-- Settles O25: with the argument taken apart into its two bytes, each clause is about those bytes and their
checksum. -/
theorem echoedArgumentValidates : Obligations.EchoedArgumentValidates := by
  intro a
  obtain ⟨a0, a1, rfl⟩ : ∃ a0 a1, a = half a0 a1 := ⟨_, _, (half_highByte_lowByte a).symm⟩
  refine ⟨a0, a1, _, half_toNat a0 a1, rfl, argFrame_half a0 a1, wordCheck_own_checksum a0 a1,
    fun s => ⟨_, exec_eq _ s, rfl⟩, fun k0 k1 => ⟨?command, bareCommandFrame_half k0 k1⟩⟩
  show commandFrame (half k0 k1) (half a0 a1) = _
  rw [commandFrame_eq_append, bareCommandFrame_half, argFrame_half]
  rfl

end Sys2Proof.Proofs
end

section
/-! SUPPORT. The two policies as rules: the data-ready flag of a word, `MDEC` for each verdict and each outcome of
`meas_decode`, and operations in sequence as a fold over states (43_policy_ops.md R121 to R126). -/

namespace Sys2Proof.Machine

/-! ## The data-ready flag -/

/-- Bit 0 of a bit vector says that its number is odd. -/
theorem getLsbD_zero_eq_true_iff {n : Nat} (x : BitVec n) : x.getLsbD 0 = true ↔ x.toNat % 2 = 1 := by
  rw [← BitVec.testBit_toNat, Nat.testBit_zero, decide_eq_true_iff]

/-- The flag is the verdict and the low bit of the second byte (R121). -/
theorem readyDecode_eq_and (w : RespWord) : readyDecode w = (wordValid w && w.d1.getLsbD 0) := rfl

/-- A word says "ready" when it is valid and its data is odd (R121). -/
theorem readyDecode_eq_true_iff (w : RespWord) :
    readyDecode w = true ↔ wordValid w = true ∧ (wordData w).toNat % 2 = 1 := by
  rw [← getLsbD_zero_eq_true_iff, wordData, half_getLsbD_zero, readyDecode_eq_and, Bool.and_eq_true]

/-- Of a valid word only the low bit of its second byte counts (R121). -/
theorem readyDecode_of_valid {w : RespWord} (h : wordValid w = true) : readyDecode w = w.d1.getLsbD 0 := by
  rw [readyDecode_eq_and, h, Bool.true_and]

/-- An invalid word says "not ready" whatever its data (R121). -/
theorem readyDecode_of_invalid {w : RespWord} (h : wordValid w = false) : readyDecode w = false := by
  rw [readyDecode_eq_and, h, Bool.false_and]

/-- The flag of a word whose data has a known checksum: that checksum against the byte received, and bit 0 (R121). -/
theorem readyDecode_of_computeChecksum {d0 d1 x : Byte} (h : computeChecksum [d0, d1] = x) (c : Byte) :
    readyDecode ⟨d0, d1, c⟩ = (x == c && d1.getLsbD 0) := by
  rw [← h]
  rfl

/-- The checksum of the data of R122's example. -/
theorem computeChecksum_00_01 : computeChecksum [0x00, 0x01] = 0xB0 := by decide +kernel

/-- The checksum of the odd data 0x0003, a corner case of R122. -/
theorem computeChecksum_00_03 : computeChecksum [0x00, 0x03] = 0xD2 := by decide +kernel

/-! ## The measurement -/

/-- Words do not all validate when one of them does not (R123). -/
theorem all_wordValid_eq_false_iff (ws : List RespWord) :
    ws.all wordValid = false ↔ ∃ w ∈ ws, wordValid w = false := by
  simp only [List.all_eq_false, Bool.not_eq_true]

/-- When `meas_decode` delivers a triple, `MDEC` answers it and puts it in the float registers (R124, R125). -/
theorem stateAfter_mdec_of_ok {w0 w1 w2 w3 w4 w5 : RespWord} {m : Triple}
    (h : measDecode w0 w1 w2 w3 w4 w5 = .ok m) (s : State) :
    (stateAfter (.mdec w0 w1 w2 w3 w4 w5) s).response = some ⟨.ok, .triple m.co2 m.temperature m.humidity⟩ ∧
      ∀ q, (stateAfter (.mdec w0 w1 w2 w3 w4 w5) s).regs.fr q = m.fr q := by
  constructor
  · rw [stateAfter, responseOf, h]
  · intro q
    rw [stateAfter, RegWrites.apply_fr, writesOf, h]
    rfl

/-- When `meas_decode` fails, `MDEC` answers that failure and every float register is as before (R124). -/
theorem stateAfter_mdec_of_error {w0 w1 w2 w3 w4 w5 : RespWord} {e : Exc}
    (h : measDecode w0 w1 w2 w3 w4 w5 = .error e) (s : State) :
    (stateAfter (.mdec w0 w1 w2 w3 w4 w5) s).response = some ⟨e.outcome, .empty⟩ ∧
      ∀ q, (stateAfter (.mdec w0 w1 w2 w3 w4 w5) s).regs.fr q = s.regs.fr q := by
  constructor
  · rw [stateAfter, responseOf, h]
  · intro q
    rw [stateAfter, RegWrites.apply_fr, writesOf, h]
    rfl

/-- The six words of R124's example validate. -/
theorem all_wordValid_example : [(⟨0x44, 0x54, 0x31⟩ : RespWord), ⟨0xA0, 0x00, 0x7E⟩, ⟨0x41, 0xBE, 0x5C⟩,
    ⟨0x00, 0x00, 0x81⟩, ⟨0x42, 0x24, 0x93⟩, ⟨0x00, 0x00, 0x81⟩].all wordValid = true := by decide +kernel

/-! ## Operations in sequence -/

/-- Operations one after another always end in a next state: the states they leave, folded (R51). -/
theorem execSeq_eq_foldl (is : List Instr) (s : State) :
    execSeq is s = .next (is.foldl (fun t i => stateAfter i t) s) := by
  induction is generalizing s with
  | nil => rfl
  | cons i is ih => rw [execSeq, exec_eq, andThen_next, ih, List.foldl_cons]

end Sys2Proof.Machine

namespace Sys2Proof.Safety

open Sys2Proof.Machine

/-- `MDEC` of six valid words: `CRC` and `DATA` of word 5, `V` = 1, and the triple in `FR` and in the answer (R124). -/
theorem exec_mdec_of_all_valid {w0 w1 w2 w3 w4 w5 : RespWord} (h : [w0, w1, w2, w3, w4, w5].all wordValid = true)
    (s : State) :
    exec (.mdec w0 w1 w2 w3 w4 w5) s = .next (answered s
      { s.regs with
        crc := computeChecksum [w5.d0, w5.d1], data := half w5.d0 w5.d1, v := true,
        fr0 := decodeFloat w0.d0 w0.d1 w1.d0 w1.d1, fr1 := decodeFloat w2.d0 w2.d1 w3.d0 w3.d1,
        fr2 := decodeFloat w4.d0 w4.d1 w5.d0 w5.d1 }
      (.triple (decodeFloat w0.d0 w0.d1 w1.d0 w1.d1) (decodeFloat w2.d0 w2.d1 w3.d0 w3.d1)
        (decodeFloat w4.d0 w4.d1 w5.d0 w5.d1))) := by
  rw [exec_eq, stateAfter, responseOf, writesOf_mdec_of_all_valid h, measDecode_of_all_valid h]
  rfl

/-- `MDEC` with a bad word: `ChecksumInvalid`, with `CRC`, `DATA` and `V` written and `FR` as before (R124). -/
theorem exec_mdec_of_not_all_valid {w0 w1 w2 w3 w4 w5 : RespWord}
    (h : [w0, w1, w2, w3, w4, w5].all wordValid = false) (s : State) :
    exec (.mdec w0 w1 w2 w3 w4 w5) s = .next
      { s with
        regs := { s.regs with crc := computeChecksum [w5.d0, w5.d1], data := half w5.d0 w5.d1, v := false }
        response := some ⟨.checksumInvalid, .empty⟩ } := by
  rw [exec_eq, stateAfter, responseOf, writesOf_mdec_of_not_all_valid h, measDecode_of_not_all_valid h]
  rfl

end Sys2Proof.Safety
end

section
/-! The statements of the family 43_policy_ops.md. -/

namespace Sys2Proof.Proofs

open Sys2Proof.Machine Sys2Proof.Safety

/-- Settles O35: the flag is the verdict and bit 0 of the data, which is the low bit of the second byte. -/
theorem readyDecodeRule : Obligations.ReadyDecodeRule := by
  refine ⟨fun d0 d1 c => ?_, fun v w hv hw hbit => ?_⟩
  · rw [readyDecode_eq_true_iff, wordValid_eq_true_iff, wordData, half_toNat]
  · rw [readyDecode_of_valid hv, readyDecode_of_valid hw, hbit]

/-- Settles O22: `RDYW`'s row of the write table, its `RDY` and its answer both `ready_decode`; each corner case is the
checksum of its data against the byte received. -/
theorem rdywRule : Obligations.RdywRule :=
  ⟨fun d0 d1 _ s => ⟨_, exec_eq _ s, rfl, half_toNat d0 d1, readyDecode_eq_true_iff _, rfl⟩,
    fun d0 d1 c => decode_encode (i := .rdyw ⟨d0, d1, c⟩) rfl,
    readyDecode_of_computeChecksum computeChecksum_00_03 0xD2,
    readyDecode_of_computeChecksum computeChecksum_00_02 0xE3, (validate_eq_true_iff _ _).mpr computeChecksum_00_02,
    readyDecode_of_computeChecksum computeChecksum_00_01 0xB0,
    readyDecode_of_computeChecksum computeChecksum_00_01 0xB1, computeChecksum_00_01⟩

/-- Settles O24: `MDEC`'s two rows of the write table; each of the six `WCHK` overwrites the `CRC` and `DATA` of the one
before, so word 5's stand. -/
theorem mdecRule : Obligations.MdecRule :=
  ⟨fun _ _ _ _ _ _ s h => exec_mdec_of_all_valid (List.all_eq_true.mpr h) s,
    fun _ _ _ _ _ _ s h => exec_mdec_of_not_all_valid ((all_wordValid_eq_false_iff _).mpr h) s,
    fun _ => rejected_of_fixed_length_ne (fmt := .m) rfl fun _ => rfl,
    fun w0 w1 w2 w3 w4 w5 => decode_encode (i := .mdec w0 w1 w2 w3 w4 w5) rfl,
    fun _ _ _ _ _ _ s => ⟨_, _, exec_eq _ s, execSeq_eq_foldl _ s, rfl, rfl, rfl⟩,
    fun s => ⟨_, exec_mdec_of_all_valid all_wordValid_example s, rfl, rfl, rfl, rfl, rfl, computeChecksum_00_00, rfl⟩⟩

/-- Settles O36: `meas_decode` is split on whether all six words validate, `MDEC` on what `meas_decode` gives. -/
theorem measDecodeRefinement : Obligations.MeasDecodeRefinement := by
  refine ⟨fun _ _ _ _ _ _ h => measDecode_of_all_valid (List.all_eq_true.mpr h),
    fun _ _ _ _ _ _ h => measDecode_of_not_all_valid ((all_wordValid_eq_false_iff _).mpr h),
    fun w0 w1 w2 w3 w4 w5 s => ⟨_, exec_eq _ s, ?_⟩⟩
  cases h : measDecode w0 w1 w2 w3 w4 w5 with
  | ok m =>
    obtain ⟨hresponse, hfr⟩ := stateAfter_mdec_of_ok h s
    exact ⟨hresponse, hfr .fr0, hfr .fr1, hfr .fr2⟩
  | error e =>
    obtain ⟨hresponse, hfr⟩ := stateAfter_mdec_of_error h s
    exact ⟨hresponse, hfr .fr0, hfr .fr1, hfr .fr2⟩

/-- Settles O37: an invalid word is a 0 of `RDYW` and an empty result of `MDEC`. -/
theorem policiesNotMerged : Obligations.PoliciesNotMerged :=
  ⟨fun w s => ⟨_, readyDecode w, exec_eq _ s, rfl, readyDecode_of_invalid⟩,
    fun _ _ _ _ _ _ s h => ⟨_, _, exec_mdec_of_not_all_valid ((all_wordValid_eq_false_iff _).mpr h) s, rfl,
      fun _ _ _ hresult => nomatch hresult⟩,
    fun _ => ⟨rfl, rfl⟩⟩

end Sys2Proof.Proofs
end

section
/-! SUPPORT. The outcome of a request (60_exceptions.md R140 to R145): an operation ends `Ok`, or it is an `MDEC` with a
bad word and ends `ChecksumInvalid` (`responseOf_ok_or_checksumInvalid`); a frame is `IllegalOp` when it does not have
the length its opcode requires (`requiredLength_ne_some_iff`). -/

namespace Sys2Proof

/-! ## The causes of `IllegalOp` -/

/-- A frame without a required length has no byte, or its byte 0 is reserved (R67). -/
theorem requiredLength_eq_none_iff (f : Frame) :
    requiredLength f = none ↔ f = [] ∨ ∃ op rest, f = op :: rest ∧ op ∉ Safety.assignedOpcodes := by
  cases f with
  | nil => exact iff_of_true rfl (.inl rfl)
  | cons op rest =>
    rw [requiredLength, Option.map_eq_none_iff, formatOfOpcode_eq_none_iff]
    constructor
    · exact fun hop => .inr ⟨op, rest, rfl, hop⟩
    · rintro (hnil | ⟨op', rest', hcons, hop⟩)
      · cases hnil
      · cases hcons
        exact hop

/-- A frame does not have its required length when it has none, or when its length is another one (R66). -/
theorem requiredLength_ne_some_iff (f : Frame) :
    requiredLength f ≠ some f.length ↔
      requiredLength f = none ∨ ∃ n : Nat, requiredLength f = some n ∧ f.length ≠ n := by
  cases requiredLength f with
  | none => exact iff_of_true nofun (.inl rfl)
  | some n => simp only [ne_eq, Option.some.injEq, reduceCtorEq, false_or, exists_eq_left', eq_comm]

/-- A frame decodes to no operation for one of three causes: it is empty, its opcode is reserved, or its length is not
the one its opcode requires (R140). -/
theorem decode_ne_ok_iff (f : Frame) :
    (∀ i, decode f ≠ .ok i) ↔
      f = [] ∨ (∃ op rest, f = op :: rest ∧ op ∉ Safety.assignedOpcodes) ∨
        ∃ n : Nat, requiredLength f = some n ∧ f.length ≠ n := by
  rw [← or_assoc, ← requiredLength_eq_none_iff, ← requiredLength_ne_some_iff, ne_eq, ← decode_ok_iff_requiredLength,
    not_exists]

end Sys2Proof

namespace Sys2Proof.Machine

/-! ## The outcome of an operation -/

/-- A measurement with a bad word is answered `ChecksumInvalid` and nothing else (R141). -/
theorem responseOf_mdec_of_not_all_valid {w0 w1 w2 w3 w4 w5 : RespWord}
    (h : [w0, w1, w2, w3, w4, w5].all wordValid = false) (crc : Byte) :
    responseOf (.mdec w0 w1 w2 w3 w4 w5) crc = ⟨.checksumInvalid, .empty⟩ := by
  rw [responseOf, measDecode_of_not_all_valid h]
  rfl

/-- Every operation is answered `Ok` with its result, but for an `MDEC` with a bad word (R140, R141). -/
theorem responseOf_ok_or_checksumInvalid (i : Instr) (crc : Byte) :
    (∃ r : Result, responseOf i crc = ⟨.ok, r⟩) ∨
      ∃ w0 w1 w2 w3 w4 w5 : RespWord, i = .mdec w0 w1 w2 w3 w4 w5 ∧
        [w0, w1, w2, w3, w4, w5].all wordValid = false ∧ responseOf i crc = ⟨.checksumInvalid, .empty⟩ := by
  cases i with
  | mdec w0 w1 w2 w3 w4 w5 =>
    cases h : [w0, w1, w2, w3, w4, w5].all wordValid with
    | true => exact .inl ⟨_, by rw [responseOf, measDecode_of_all_valid h]⟩
    | false => exact .inr ⟨w0, w1, w2, w3, w4, w5, rfl, h, responseOf_mdec_of_not_all_valid h crc⟩
  | _ => exact .inl ⟨_, rfl⟩

/-- An operation ends `Ok` or `ChecksumInvalid` (R140). -/
theorem responseOf_outcome (i : Instr) (crc : Byte) :
    (responseOf i crc).outcome = .ok ∨ (responseOf i crc).outcome = .checksumInvalid := by
  rcases responseOf_ok_or_checksumInvalid i crc with ⟨r, h⟩ | ⟨_, _, _, _, _, _, -, -, h⟩
  · exact .inl (by rw [h])
  · exact .inr (by rw [h])

/-- No operation is answered `IllegalOp` (R142). -/
theorem responseOf_outcome_ne_illegalOp (i : Instr) (crc : Byte) : (responseOf i crc).outcome ≠ .illegalOp := by
  rcases responseOf_outcome i crc with h | h <;> rw [h] <;> exact nofun

/-- An operation that does not end `Ok` has no result (R140). -/
theorem responseOf_result_of_outcome_ne_ok {i : Instr} {crc : Byte} (h : (responseOf i crc).outcome ≠ .ok) :
    (responseOf i crc).result = .empty := by
  rcases responseOf_ok_or_checksumInvalid i crc with ⟨r, hr⟩ | ⟨_, _, _, _, _, _, -, -, hr⟩
  · exact absurd (by rw [hr]) h
  · rw [hr]

/-- The operations answered `ChecksumInvalid` are the `MDEC`s with a bad word (R141). -/
theorem responseOf_outcome_eq_checksumInvalid_iff (i : Instr) (crc : Byte) :
    (responseOf i crc).outcome = .checksumInvalid ↔
      ∃ w0 w1 w2 w3 w4 w5 : RespWord, i = .mdec w0 w1 w2 w3 w4 w5 ∧
        [w0, w1, w2, w3, w4, w5].all wordValid = false := by
  constructor
  · intro houtcome
    rcases responseOf_ok_or_checksumInvalid i crc with ⟨r, hr⟩ | ⟨w0, w1, w2, w3, w4, w5, hi, hbad, -⟩
    · rw [hr] at houtcome
      cases houtcome
    · exact ⟨w0, w1, w2, w3, w4, w5, hi, hbad⟩
  · rintro ⟨w0, w1, w2, w3, w4, w5, rfl, hbad⟩
    rw [responseOf_mdec_of_not_all_valid hbad]

/-- A request the decoder accepts ends in the state its operation leaves (R69). -/
theorem step_of_decode_ok {s : State} {f : Frame} {rest : List Input} {i : Instr}
    (hs : s.inputs = .request f :: rest) (h : decode f = .ok i) :
    step s = .next (stateAfter i { s with inputs := rest }) := by
  rw [step_of_request hs, serve_ok h, exec_eq]

end Sys2Proof.Machine
end

section
/-! The statements of the family 60_exceptions.md. -/

namespace Sys2Proof.Proofs

open Sys2Proof.Machine Sys2Proof.Safety

/-- Settles O38: `ChecksumInvalid` is the answer of an `MDEC` with a bad word alone; where the verdict of another
operation is 0, so are its answer and its `V`. -/
theorem onlyMdecRaisesChecksumInvalid : Obligations.OnlyMdecRaisesChecksumInvalid := by
  refine ⟨fun i s t r hexec hresponse => ?mdec, fun c s hne => ⟨_, exec_eq _ s, ?crcchk⟩,
    fun bytes c s hne => ⟨_, exec_eq _ s, ?cval⟩, fun w s hbad => ?word⟩
  case mdec =>
    cases (exec_eq i s).symm.trans hexec
    have houtcome : (responseOf i s.regs.crc).outcome = .checksumInvalid :=
      congrArg Response.outcome (Option.some.inj hresponse)
    obtain ⟨w0, w1, w2, w3, w4, w5, rfl, hbad⟩ := (responseOf_outcome_eq_checksumInvalid_iff _ _).mp houtcome
    exact ⟨w0, w1, w2, w3, w4, w5, rfl, by rw [stateAfter, writesOf_mdec_of_not_all_valid hbad]; rfl⟩
  case crcchk =>
    have hverdict : (s.regs.crc == c) = false := beq_eq_false_iff_ne.mpr hne
    exact ⟨by rw [stateAfter, responseOf, hverdict], hverdict⟩
  case cval =>
    have hverdict : validate bytes c = false := beq_eq_false_iff_ne.mpr hne
    exact ⟨by rw [stateAfter, responseOf, hverdict], hverdict⟩
  case word =>
    have hready : readyDecode w = false := readyDecode_of_invalid hbad
    exact ⟨_, _, exec_eq _ s, by rw [stateAfter, responseOf, hbad, wordData, half], hbad, exec_eq _ s,
      by rw [stateAfter, responseOf, hready], hbad, hready⟩

/-- No outcome has the code 3 (R140). -/
theorem replyOutcome_code_ne_three (o : ReplyOutcome) : o.code ≠ 3 := by
  cases o <;> decide

/-- Settles O39: a request is split on whether its frame decodes; an operation's answer is never `IllegalOp`, and a
refused frame's is nothing else. -/
theorem oneOutcomePerRequest : Obligations.OneOutcomePerRequest := by
  refine ⟨⟨rfl, rfl, rfl, replyOutcome_code_ne_three⟩, fun s f rest hs => ?_, decode_ne_ok_iff⟩
  cases hdec : decode f with
  | ok i =>
    refine ⟨_, _, step_of_decode_ok hs hdec, rfl, rfl, responseOf_result_of_outcome_ne_ok, ?illegal, ?checksum⟩
    case illegal => exact iff_of_false (responseOf_outcome_ne_illegalOp i _) fun h => h i rfl
    case checksum =>
      simp only [responseOf_outcome_eq_checksumInvalid_iff, all_wordValid_eq_false_iff, Except.ok.injEq]
  | error e =>
    refine ⟨_, _, rejected_of_decode_error hdec s rest hs, rfl, rfl, fun _ => rfl, iff_of_true rfl nofun,
      iff_of_false nofun ?_⟩
    rintro ⟨_, _, _, _, _, _, hok, -⟩
    cases hok

/-- Settles O40: eighteen bytes after the opcode are six words, so the frame is an `MDEC`'s; its failure does not show
which word was bad. -/
theorem measurementFrameOutcomes : Obligations.MeasurementFrameOutcomes := by
  refine ⟨fun s tail rest hs hlen => ?accepted, fun tail hlen => ?refused, fun _ _ _ _ _ _ _ _ _ _ _ _ s hw hv => ?alike⟩
  case accepted =>
    obtain ⟨w0, w1, w2, w3, w4, w5, rfl⟩ := exists_words_of_length hlen
    exact ⟨_, _, step_of_decode_ok hs (decode_encode (i := .mdec w0 w1 w2 w3 w4 w5) rfl), rfl, responseOf_outcome _ _⟩
  case refused => exact rejected_of_length_ne (fmt := .m) rfl fun h => hlen (Nat.succ.inj h)
  case alike =>
    exact ⟨_, _, exec_mdec_of_not_all_valid ((all_wordValid_eq_false_iff _).mpr hw) s,
      exec_mdec_of_not_all_valid ((all_wordValid_eq_false_iff _).mpr hv) s, rfl⟩

/-- Settles O10: a refused frame is `Rejected`, which writes the response alone. -/
theorem illegalOpWritesNothing : Obligations.IllegalOpWritesNothing :=
  fun s _ rest hs h => ⟨_, rejected_of_decode_ne_ok h s rest hs, rfl, rfl, rfl⟩

end Sys2Proof.Proofs
end

section
/-! SUPPORT. What a step can do, said once (`step_cases`), and two steps in a row (20_memory.md R49, R51;
70_reset_and_hazards.md R160). -/

namespace Sys2Proof.Machine

/-! ## One step -/

/-- With no input to take the step changes nothing (R144). -/
theorem step_of_no_input {s : State} (h : s.inputs = []) : step s = .next s := by
  rw [step_eq, h]

/-- When the oldest input is a reset, the step leaves the reset state and the inputs after it (R160). -/
theorem step_of_reset {s : State} {later : List Input} (h : s.inputs = .reset :: later) :
    step s = .next { State.reset with inputs := later } := by
  rw [step_eq, h]

/-- A step at a refused frame writes the response alone (R142). -/
theorem step_of_decode_error {s : State} {f : Frame} {later : List Input} {e : DecodeError}
    (hs : s.inputs = .request f :: later) (h : decode f = .error e) :
    step s = .next { s with inputs := later, response := some ⟨.illegalOp, .empty⟩ } :=
  (step_of_request hs).trans (serve_error h _)

/-- Everything a step can do, with the state it leaves: nothing, an operation, a refusal, or a reset. -/
theorem step_cases (s : State) :
    (s.inputs = [] ∧ step s = .next s) ∨
    (∃ f later i, s.inputs = .request f :: later ∧ decode f = .ok i ∧
      step s = .next (stateAfter i { s with inputs := later })) ∨
    (∃ f later e, s.inputs = .request f :: later ∧ decode f = .error e ∧
      step s = .next { s with inputs := later, response := some ⟨.illegalOp, .empty⟩ }) ∨
    (∃ later, s.inputs = .reset :: later ∧ step s = .next { State.reset with inputs := later }) := by
  match hs : s.inputs with
  | [] => exact .inl ⟨rfl, step_of_no_input hs⟩
  | .request f :: later =>
    cases hdec : decode f with
    | ok i => exact .inr (.inl ⟨f, later, i, rfl, hdec, step_of_decode_ok hs hdec⟩)
    | error e => exact .inr (.inr (.inl ⟨f, later, e, rfl, hdec, step_of_decode_error hs hdec⟩))
  | .reset :: later => exact .inr (.inr (.inr ⟨later, rfl, step_of_reset hs⟩))

/-- A step always ends in a next state (R171). -/
theorem exists_step_eq_next (s : State) : ∃ t : State, step s = .next t := by
  rcases step_cases s with ⟨-, h⟩ | ⟨_, _, _, -, -, h⟩ | ⟨_, _, _, -, -, h⟩ | ⟨_, -, h⟩
  all_goals exact ⟨_, h⟩

/-! ## Two steps -/

/-- The response to a frame does not depend on the response before it (R147). -/
theorem serve_with_response (f : Frame) (s : State) (r : Option Response) :
    serve f { s with response := r } = serve f s := by
  cases h : decode f with
  | ok i => rw [serve_ok h, serve_ok h, exec_eq, exec_eq]; rfl
  | error e => rw [serve_error h, serve_error h]

/-- A request that is next after one step is served in the second, from the registers the first left and as if any
response stood there (R51, R147). -/
theorem run_two_of_request {s t : State} {g : Frame} {later : List Input} (hstep : step s = .next t)
    (ht : t.inputs = .request g :: later) (r : Option Response) :
    core.run 2 s = serve g { t with inputs := later, response := r } := by
  obtain ⟨u, hu⟩ := serve_with_inputs g t
  rw [run_succ_of_next core hstep, run_succ_of_next core ((step_of_request ht).trans (hu later)),
    serve_with_response g { t with inputs := later }, hu]
  rfl

/-- No operation leaves the reset registers from every state: `RDYW` leaves the float registers, and the others leave
`RDY` (R32, R160). -/
theorem exists_stateAfter_regs_ne_reset (i : Instr) : ∃ s : State, (stateAfter i s).regs ≠ Regs.reset := by
  cases i with
  | rdyw w =>
    exact ⟨{ State.reset with regs := { Regs.reset with fr0 := 1 } }, fun h =>
      (by decide : (1 : Pattern) ≠ 0) (congrArg Regs.fr0 h)⟩
  | _ =>
    exact ⟨{ State.reset with regs := { Regs.reset with rdy := true } }, fun h =>
      Bool.noConfusion (congrArg Regs.rdy h : true = false)⟩

end Sys2Proof.Machine

namespace Sys2Proof.Safety

open Sys2Proof.Machine

/-- An operation's answer agrees with the registers it writes (R27, R70). -/
theorem coherent_stateAfter (i : Instr) (s : State) : Coherent (stateAfter i s) := by
  cases i with
  | crcinit => exact True.intro
  | crcupd b => exact True.intro
  | crcchk c => exact Eq.refl (BitVec.ofBool (s.regs.crc == c))
  | csum bytes => exact Eq.refl (computeChecksum bytes)
  | cval bytes c => exact Eq.refl (BitVec.ofBool (validate bytes c))
  | wchk w => exact And.intro rfl rfl
  | argf a0 a1 =>
    show [a0, a1, _] = [highByte (half a0 a1), lowByte (half a0 a1), computeChecksum [a0, a1]]
    rw [highByte_half, lowByte_half]
  | rdyw w =>
    refine And.intro rfl fun hready => ?_
    obtain ⟨hvalid, hbit⟩ := Bool.and_eq_true_iff.mp hready
    exact ⟨congrArg BitVec.ofBool hvalid, (half_getLsbD_zero w.d0 w.d1).trans hbit⟩
  | fdec rd p0 p1 p2 p3 =>
    cases rd with
    | fr0 => exact Or.inl rfl
    | fr1 => exact Or.inr (Or.inl rfl)
    | fr2 => exact Or.inr (Or.inr rfl)
  | mdec w0 w1 w2 w3 w4 w5 =>
    rw [stateAfter, responseOf]
    cases h : [w0, w1, w2, w3, w4, w5].all wordValid with
    | true =>
      rw [writesOf_mdec_of_all_valid h, measDecode_of_all_valid h]
      exact And.intro rfl ⟨rfl, rfl, rfl⟩
    | false =>
      rw [writesOf_mdec_of_not_all_valid h, measDecode_of_not_all_valid h]
      exact And.intro rfl rfl

/-- A step keeps the agreement: only an operation's own answer says anything of the ports. -/
theorem coherent_step {s t : State} (hs : Coherent s) (hstep : step s = .next t) : Coherent t := by
  rcases step_cases s with ⟨-, h⟩ | ⟨_, _, i, -, -, h⟩ | ⟨_, _, _, -, -, h⟩ | ⟨_, -, h⟩
  · cases h.symm.trans hstep
    exact hs
  · cases h.symm.trans hstep
    exact coherent_stateAfter i _
  · cases h.symm.trans hstep
    exact Eq.refl Result.empty
  · cases h.symm.trans hstep
    exact True.intro

end Sys2Proof.Safety
end

section
/-! SUPPORT. The laws of the checksum (40_checksum_engine.md R84, R92): the step is a bijection in either argument, its
table, and what that says of a response word with one byte changed. -/

namespace Sys2Proof.Machine

/-! ## The step as a bijection -/

/-- One iteration loses nothing: a byte with the top bit set becomes an odd one. -/
theorem crcShift_eq_zero : ∀ t : Byte, crcShift t = 0 → t = 0 := by
  decide +kernel

/-- One iteration is injective, being linear with a trivial kernel. -/
theorem crcShift_injective : Function.Injective crcShift := by
  intro a b h
  apply BitVec.xor_eq_zero_iff.mp
  apply crcShift_eq_zero
  rw [crcShift_xor, h]
  exact BitVec.xor_self

/-- The step reads its arguments only through their XOR (R81). -/
theorem crc8Step_eq_zero_xor (r b : Byte) : crc8Step r b = crc8Step 0x00 (r ^^^ b) :=
  congrArg (crcShifts 8) BitVec.zero_xor.symm

/-- Any number of iterations loses nothing. -/
theorem crcShifts_injective (k : Nat) : Function.Injective (crcShifts k) := by
  rw [funext (crcShifts_eq_iterate k)]
  exact crcShift_injective.iterate k

theorem crc8Step_left_inj {r r' b : Byte} : crc8Step r b = crc8Step r' b ↔ r = r' :=
  (crcShifts_injective 8).eq_iff.trans (BitVec.xor_left_inj b)

theorem crc8Step_right_inj {r b b' : Byte} : crc8Step r b = crc8Step r b' ↔ b = b' :=
  (crcShifts_injective 8).eq_iff.trans (BitVec.xor_right_inj r)

/-- For a fixed byte the step is a bijection of the running value (R84 (e)). -/
theorem crc8Step_bijective_left (b : Byte) : Function.Bijective fun r : Byte => crc8Step r b :=
  Finite.injective_iff_bijective.mp fun _ _ h => crc8Step_left_inj.mp h

/-- For a fixed running value the step is a bijection of the byte (R84 (e)). -/
theorem crc8Step_bijective_right (r : Byte) : Function.Bijective fun b : Byte => crc8Step r b :=
  Finite.injective_iff_bijective.mp fun _ _ h => crc8Step_right_inj.mp h

/-- After fixed bytes exactly one final byte gives each checksum (R84 (e)). -/
theorem exists_computeChecksum_concat_iff (s : List Byte) (c : Byte) :
    ∃ b : Byte, ∀ b' : Byte, computeChecksum (s ++ [b']) = c ↔ b' = b := by
  obtain ⟨b, hb⟩ := (crc8Step_bijective_right (computeChecksum s)).surjective c
  refine ⟨b, fun b' => ?_⟩
  rw [computeChecksum_concat, ← hb]
  exact crc8Step_right_inj

/-- The two-byte sequences of one checksum, by their first byte: each has one second byte (R84 (e)). -/
theorem fst_bijective_of_checksum (c : Byte) : Function.Bijective
    fun d : { d : Byte × Byte // computeChecksum [d.1, d.2] = c } => d.val.1 := by
  constructor
  · rintro ⟨⟨a, b⟩, hab⟩ ⟨⟨a', b'⟩, hab'⟩ (rfl : a = a')
    obtain ⟨x, hx⟩ := exists_computeChecksum_concat_iff [a] c
    obtain rfl : b = x := (hx b).mp hab
    obtain rfl : b' = b := (hx b').mp hab'
    rfl
  · intro a
    obtain ⟨b, hb⟩ := exists_computeChecksum_concat_iff [a] c
    exact ⟨⟨(a, b), (hb b).mpr rfl⟩, rfl⟩

theorem natCard_byte : Nat.card Byte = 256 := by
  rw [Nat.card_eq_fintype_card, ← FinEnum.card_eq_fintypeCard, FinEnum.card_bitVec]
  rfl

/-! ## The table -/

/-- The 256 entries listed are the steps from 0x00 over the bytes in order (R84 (f)). -/
theorem crcTable_eq_map : crcTable = (List.range 256).map fun k => crc8Step 0x00 (BitVec.ofNat 8 k) := by
  decide +kernel

theorem crcTable_length : crcTable.length = 256 := by
  rw [crcTable_eq_map, List.length_map, List.length_range]

/-- The entries are distinct, as the step is injective. -/
theorem crcTable_nodup : crcTable.Nodup := by
  rw [crcTable_eq_map]
  refine List.Nodup.map_on (fun j hj k hk h => ?_) List.nodup_range
  have hbytes := congrArg BitVec.toNat (crc8Step_right_inj.mp h)
  rwa [BitVec.toNat_ofNat, BitVec.toNat_ofNat, Nat.mod_eq_of_lt (List.mem_range.mp hj),
    Nat.mod_eq_of_lt (List.mem_range.mp hk)] at hbytes

/-- Entry `x` is the step from 0x00 over `x`. -/
theorem crcTable_getElem? (x : Byte) : crcTable[x.toNat]? = some (crc8Step 0x00 x) := by
  rw [crcTable_eq_map, List.getElem?_map, List.getElem?_range x.isLt, Option.map_some, BitVec.ofNat_toNat,
    BitVec.setWidth_eq]

/-- The step by table is the step (R84 (f)). -/
theorem crc8StepByTable_eq (r b : Byte) : crc8StepByTable r b = crc8Step r b := by
  rw [crc8StepByTable, List.getD_eq_getElem?_getD, crcTable_getElem?, Option.getD_some, ← crc8Step_eq_zero_xor]

/-! ## Response words that differ in one byte -/

/-- The checksum of a word's data is two steps from 0xFF (R82). -/
theorem computeChecksum_pair (a b : Byte) : computeChecksum [a, b] = crc8Step (crc8Step 0xFF a) b := by
  rw [computeChecksum_eq_foldl]
  rfl

/-- The data 0x0130 has the checksum of 0x0001 (R92). -/
theorem computeChecksum_01_30 : computeChecksum [0x01, 0x30] = 0xB0 := by decide +kernel

end Sys2Proof.Machine

namespace Sys2Proof.Safety

open Sys2Proof.Machine

/-- Two response words differ in at most one of their three bytes. -/
def AgreeInTwoBytes (v w : RespWord) : Prop :=
  (v.d0 = w.d0 ∧ v.d1 = w.d1) ∨ (v.d0 = w.d0 ∧ v.c = w.c) ∨ (v.d1 = w.d1 ∧ v.c = w.c)

/-- Two valid words that differ in at most one byte are the same: the checksum function determines `c` from the data,
and the step's injectivity determines either data byte from the rest. -/
theorem eq_of_wordValid_of_agreeInTwoBytes {v w : RespWord} (hv : wordValid v = true) (hw : wordValid w = true)
    (h : AgreeInTwoBytes v w) : v = w := by
  obtain ⟨a, b, c⟩ := v
  obtain ⟨a', b', c'⟩ := w
  replace hv : crc8Step (crc8Step 0xFF a) b = c :=
    (computeChecksum_pair a b).symm.trans ((wordValid_eq_true_iff ⟨a, b, c⟩).mp hv)
  replace hw : crc8Step (crc8Step 0xFF a') b' = c' :=
    (computeChecksum_pair a' b').symm.trans ((wordValid_eq_true_iff ⟨a', b', c'⟩).mp hw)
  rcases h with ⟨h0 : a = a', h1 : b = b'⟩ | ⟨h0 : a = a', h2 : c = c'⟩ | ⟨h1 : b = b', h2 : c = c'⟩
  · subst h0 h1
    rw [← hv.symm.trans hw]
  · subst h0 h2
    rw [crc8Step_right_inj.mp (hv.trans hw.symm)]
  · subst h1 h2
    rw [crc8Step_right_inj.mp (crc8Step_left_inj.mp (hv.trans hw.symm))]

/-- The byte at bit `start` of a 24-bit word whose only set bit is bit `k`. -/
def flipMask (k start : Nat) : Byte := ((1 : BitVec 24) <<< k).extractLsb' start 8

/-- A flip is an XOR of each byte with its part of the mask. -/
theorem flipBit_eq (w : RespWord) (k : Nat) :
    flipBit w k = ⟨w.d0 ^^^ flipMask k 16, w.d1 ^^^ flipMask k 8, w.c ^^^ flipMask k 0⟩ := by
  have h0 : (w.d0 ++ w.d1 ++ w.c).extractLsb' 16 8 = w.d0 := by
    rw [BitVec.extractLsb'_append_eq_of_le (by decide), BitVec.extractLsb'_append_eq_left]
  have h1 : (w.d0 ++ w.d1 ++ w.c).extractLsb' 8 8 = w.d1 := by
    rw [BitVec.extractLsb'_append_eq_of_le (by decide), BitVec.extractLsb'_append_eq_right]
  simp only [flipBit, BitVec.extractLsb'_xor, h0, h1, BitVec.extractLsb'_append_eq_right, flipMask]

/-- The set bit lies in one byte: the other two parts of the mask are zero. -/
theorem flipMask_zero_or_ne_zero : ∀ k < 24,
    (flipMask k 16 = 0 ∧ flipMask k 8 = 0 ∧ flipMask k 0 ≠ 0) ∨
    (flipMask k 16 = 0 ∧ flipMask k 0 = 0 ∧ flipMask k 8 ≠ 0) ∨
    (flipMask k 8 = 0 ∧ flipMask k 0 = 0 ∧ flipMask k 16 ≠ 0) := by
  decide

/-- One flipped bit leaves two bytes of a word as they were. -/
theorem flipBit_agreeInTwoBytes (w : RespWord) {k : Nat} (hk : k < 24) : AgreeInTwoBytes (flipBit w k) w := by
  simp only [AgreeInTwoBytes, flipBit_eq, xor_left_eq_self_iff]
  exact (flipMask_zero_or_ne_zero k hk).imp (fun ⟨h0, h1, _⟩ => ⟨h0, h1⟩)
    (Or.imp (fun ⟨h0, h2, _⟩ => ⟨h0, h2⟩) fun ⟨h1, h2, _⟩ => ⟨h1, h2⟩)

/-- One flipped bit makes another word. -/
theorem flipBit_ne (w : RespWord) {k : Nat} (hk : k < 24) : flipBit w k ≠ w := by
  intro h
  rw [flipBit_eq] at h
  have h0 := xor_left_eq_self_iff.mp (congrArg RespWord.d0 h)
  have h1 := xor_left_eq_self_iff.mp (congrArg RespWord.d1 h)
  have h2 := xor_left_eq_self_iff.mp (congrArg RespWord.c h)
  rcases flipMask_zero_or_ne_zero k hk with ⟨-, -, hne⟩ | ⟨-, -, hne⟩ | ⟨-, -, hne⟩
  · exact hne h2
  · exact hne h1
  · exact hne h0

/-- A valid word with one bit flipped is invalid (R92). -/
theorem wordValid_flipBit {w : RespWord} (h : wordValid w = true) {k : Nat} (hk : k < 24) :
    wordValid (flipBit w k) = false :=
  Bool.eq_false_iff.mpr fun hflip =>
    flipBit_ne w hk (eq_of_wordValid_of_agreeInTwoBytes hflip h (flipBit_agreeInTwoBytes w hk))

/-! ## The streamed checksum among other operations -/

/-- The bytes a stream feeds are those of its operations, one after another (R166). -/
theorem streamedBytes_cons (i : Instr) (is : List Instr) :
    streamedBytes (i :: is) = streamedBytes [i] ++ streamedBytes is := by
  cases i <;> rfl

/-- An operation that keeps the stream continues `CRC` over the bytes it feeds (R166). -/
theorem stateAfter_crc_of_keepsStream {i : Instr} (h : keepsStream i = true) (s : State) :
    (stateAfter i s).regs.crc = (streamedBytes [i]).foldl crc8Step s.regs.crc := by
  cases i with
  | crcupd b => rfl
  | crcchk c => rfl
  | fdec rd p0 p1 p2 p3 => rfl
  | _ => cases h

/-- A stream continues `CRC` over the bytes it feeds, from what was there (R87, R166). -/
theorem execSeq_crc_of_keepsStream {is : List Instr} (h : is.all keepsStream = true) (s : State) :
    ∃ t : State, execSeq is s = .next t ∧ t.regs.crc = (streamedBytes is).foldl crc8Step s.regs.crc := by
  induction is generalizing s with
  | nil => exact ⟨s, rfl, rfl⟩
  | cons i is ih =>
    obtain ⟨hi, his⟩ := Bool.and_eq_true_iff.mp (List.all_cons.symm.trans h)
    obtain ⟨t, hrun, hcrc⟩ := ih his (stateAfter i s)
    refine ⟨t, by rw [execSeq, exec_eq, andThen_next, hrun], ?_⟩
    rw [hcrc, stateAfter_crc_of_keepsStream hi, ← List.foldl_append, ← streamedBytes_cons]

end Sys2Proof.Safety
end

section
/-! SUPPORT. A sequence of operations for every register state (10_state.md R20, R32), and the number a normal pattern
denotes (R101). -/

namespace Sys2Proof.Machine

/-! ## Reaching a register state from reset -/

/-- `FDEC` of the four wire bytes of a pattern. -/
def fdecOf (rd : FrReg) (p : Pattern) : Instr :=
  .fdec rd (p.extractLsb' 24 8) (p.extractLsb' 16 8) (p.extractLsb' 8 8) (p.extractLsb' 0 8)

/-- The word of data 0x0001, which says "ready" when it carries its own checksum and not when it carries 0x00. -/
def readyWord (rdy : Bool) : RespWord := ⟨0x00, 0x01, if rdy then 0xB0 else 0x00⟩

/-- A received checksum that matches a computed one, or not. -/
def receivedFor (v : Bool) (crc : Byte) : Byte := if v then crc else ~~~crc

/-- Operations that put the registers `r` in place: the floats, then `RDY`, `DATA`, and last `CRC` and `V` together.
Each leaves what the ones before it put, but for `CRC`, `V` and `DATA`, which are put after them. -/
def settingOps (b : Byte) (r : Regs) : List Instr :=
  [fdecOf .fr0 r.fr0, fdecOf .fr1 r.fr1, fdecOf .fr2 r.fr2, .rdyw (readyWord r.rdy),
   .argf (highByte r.data) (lowByte r.data), .cval [b] (receivedFor r.v r.crc)]

theorem readyDecode_readyWord (rdy : Bool) : readyDecode (readyWord rdy) = rdy := by
  rw [readyWord, readyDecode_of_computeChecksum computeChecksum_00_01]
  cases rdy <;> rfl

theorem beq_receivedFor (v : Bool) (crc : Byte) : (crc == receivedFor v crc) = v := by
  cases v with
  | true => exact beq_self_eq_true crc
  | false => exact beq_eq_false_iff_ne.mpr (BitVec.ne_not_self (by decide))

theorem settingOps_wellFormed (b : Byte) (r : Regs) : ∀ i ∈ settingOps b r, i.wellFormed = true :=
  List.all_eq_true.mp (Eq.refl true)

/-- The operations leave exactly `r`, whatever the registers were (R32). -/
theorem execSeq_settingOps {b : Byte} {r : Regs} (hb : computeChecksum [b] = r.crc) (s : State) :
    ∃ t : State, execSeq (settingOps b r) s = .next t ∧ t.regs = r := by
  refine ⟨_, execSeq_eq_foldl _ s, ?_⟩
  show ({ crc := computeChecksum [b], v := computeChecksum [b] == receivedFor r.v r.crc,
          rdy := readyDecode (readyWord r.rdy), data := half (highByte r.data) (lowByte r.data),
          fr0 := decodeFloat _ _ _ _, fr1 := decodeFloat _ _ _ _, fr2 := decodeFloat _ _ _ _ } : Regs) = r
  simp only [hb, beq_receivedFor, readyDecode_readyWord, half_highByte_lowByte, decodeFloat_extractLsb']

/-! ## The number of a normal pattern -/

/-- A positive normal pattern denotes 1 plus its fraction, scaled by its exponent (R101). -/
theorem floatValue_of_normal {p : Pattern} (hclass : floatClass p = .normal) (hsign : floatSign p = false) :
    floatValue p = some (2 ^ ((floatExponent p : ℤ) - 127) * (1 + (floatFraction p : ℚ) / 2 ^ 23)) := by
  simp only [floatValue, hclass, hsign, Bool.false_eq_true, if_false, one_mul]

end Sys2Proof.Machine
end

section
/-! The statements of the family "other". -/

namespace Sys2Proof.Proofs

open Sys2Proof.Machine Sys2Proof.Safety

/-- Settles O1: the decoder takes back each constructor's frame; the length byte holds the length of a well-formed
sequence. -/
theorem decodeEncodeRoundTrip : Obligations.DecodeEncodeRoundTrip :=
  fun _ => decode_encode

/-- Settles O49: of all a step can do, only an operation answers with a value, and it is the value it writes. -/
theorem responseAgreesWithPorts : Obligations.ResponseAgreesWithPorts :=
  fun _ _ => coherent_step

/-- Settles O11, by induction on the number of steps. -/
theorem everyRunAnswers : Obligations.EveryRunAnswers := by
  intro k
  induction k with
  | zero => exact fun s => ⟨s, rfl⟩
  | succ k ih =>
    intro s
    obtain ⟨t, ht⟩ := exists_step_eq_next s
    rw [run_succ_of_next core ht]
    exact ih t

/-- Settles O14: the step at a reset, the step after it, and the register each operation leaves. -/
theorem resetEvent : Obligations.ResetEvent := by
  refine ⟨fun s rest hs => ⟨_, step_of_reset hs, rfl, rfl⟩,
    fun s f i rest hs hdec => (run_two_of_request (step_of_reset hs) rfl none).trans (serve_ok hdec _), fun i => ?_⟩
  obtain ⟨s, hs⟩ := exists_stateAfter_regs_ne_reset i
  exact ⟨s, _, exec_eq i s, hs⟩

/-- Settles O28: a fold over a concatenation is two folds, and the streamed form is that fold from 0xFF. -/
theorem streamedChecksumComposes : Obligations.StreamedChecksumComposes := by
  refine ⟨fun s t => ?_, fun bytes s => ?_⟩
  · simp only [computeChecksum_eq_foldl, List.foldl_append]
  · obtain ⟨t, hrun, -, hregs⟩ := execSeq_streamed bytes s
    exact ⟨t, hrun, hregs⟩

/-- Settles O29: validation is equality of checksums, and the checksum as the next byte cancels the running value. -/
theorem selfConsistencyAndResidue : Obligations.SelfConsistencyAndResidue := by
  have hself : ∀ bytes : List Byte, validate bytes (computeChecksum bytes) = true :=
    fun bytes => (validate_eq_true_iff _ _).mpr rfl
  refine ⟨hself, fun bytes s => ⟨_, exec_eq _ s, hself bytes⟩, fun bytes => ?_⟩
  rw [computeChecksum_concat, crc8Step_self]

/-- Settles O30: one iteration is linear with a trivial kernel, so the step is injective in either argument; the
preimages of a checksum are counted by their first byte. -/
theorem stepBijections : Obligations.StepBijections :=
  ⟨crc8Step_bijective_left, crc8Step_bijective_right, exists_computeChecksum_concat_iff,
    fun c => (Nat.card_eq_of_bijective _ (fst_bijective_of_checksum c)).trans natCard_byte⟩

/-- Settles O31: the list is the step from 0x00 over the 256 bytes; the step reads only the XOR of its arguments. -/
theorem tableFormAgrees : Obligations.TableFormAgrees :=
  ⟨crcTable_length, crcTable_nodup, crcTable_getElem?, fun r b => (crc8StepByTable_eq r b).symm⟩

/-- Settles O32: the flipped word differs from a valid one in a single byte. -/
theorem singleBitErrorsDetected : Obligations.SingleBitErrorsDetected :=
  ⟨fun _ _ hk h => wordValid_flipBit h hk, fun _ _ s hk h => ⟨_, exec_eq _ s, wordValid_flipBit h hk⟩,
    computeChecksum_00_01, computeChecksum_01_30⟩

/-- Settles O34: the bytes taken off a pattern assemble to it again. -/
theorem floatRoundTrip : Obligations.FloatRoundTrip := by
  intro p rd s
  refine ⟨_, _, _, _, rfl, decodeFloat_extractLsb' p, ?_⟩
  rw [exec_fdec, decodeFloat_extractLsb']

/-- Settles O48: the answer is a function of the operation and of the old `CRC`, which only two operations read. -/
theorem resultIndependentOfPriorState : Obligations.ResultIndependentOfPriorState := by
  refine ⟨fun i s s' hcrc => ⟨_, _, exec_eq i s, exec_eq i s', ?_⟩,
    fun i s s' hupd hchk => ⟨_, _, exec_eq i s, exec_eq i s', ?_⟩⟩
  · rw [stateAfter, stateAfter, hcrc]
  · exact congrArg some (writesOf_responseOf_crc_irrelevant i hupd hchk _ _).2

/-- Settles O51: some byte has the wanted `CRC` as its checksum, and `settingOps` does the rest. -/
theorem everyRegisterStateReachable : Obligations.EveryRegisterStateReachable := by
  intro r
  obtain ⟨b, hb⟩ := exists_computeChecksum_concat_iff [] r.crc
  exact ⟨settingOps b r, settingOps_wellFormed b r, execSeq_settingOps ((hb b).mpr rfl) _⟩

/-- Settles O52: the stream continues `CRC` from what is there, which after a `CRCINIT` is 0xFF. -/
theorem streamOwnsCrc : Obligations.StreamOwnsCrc := by
  refine fun is s h => ⟨?_, execSeq_crc_of_keepsStream h s⟩
  obtain ⟨t, hrun, hcrc⟩ := execSeq_crc_of_keepsStream h (stateAfter .crcinit s)
  refine ⟨t, by rw [execSeq, exec_eq, andThen_next, hrun], ?_⟩
  rw [hcrc, computeChecksum_eq_foldl]
  rfl

/-- Settles O55: the failing request leaves its registers and a response, which the next frame does not look at. -/
theorem nextFrameAfterFailure : Obligations.NextFrameAfterFailure := by
  refine ⟨fun s f g rest hs hdec => ?illegal, fun s f g rest w0 w1 w2 w3 w4 w5 hs hdec hbad => ?checksum⟩
  case illegal => exact run_two_of_request (rejected_of_decode_ne_ok hdec s _ hs) rfl s.response
  case checksum =>
    have hfail := exec_mdec_of_not_all_valid ((all_wordValid_eq_false_iff _).mpr hbad)
      { s with inputs := .request g :: rest }
    have hstep := (step_of_request hs).trans ((serve_ok hdec _).trans hfail)
    exact run_two_of_request hstep rfl s.response

/-- Settles O8: each frame is the encoding of a well-formed operation. -/
theorem sampleFramesDecode : Obligations.SampleFramesDecode :=
  ⟨decode_encode (i := .crcinit) rfl, decode_encode (i := .crcupd 0xBE) rfl, decode_encode (i := .crcchk 0x92) rfl,
    decode_encode (i := .csum [0xBE, 0xEF]) rfl, decode_encode (i := .cval [0xBE, 0xEF] 0x92) rfl,
    decode_encode (i := .wchk ⟨0x00, 0x02, 0xE3⟩) rfl, decode_encode (i := .argf 0x00 0x02) rfl,
    decode_encode (i := .rdyw ⟨0x00, 0x01, 0xB0⟩) rfl, decode_encode (i := .fdec .fr1 0x41 0xBE 0x00 0x00) rfl⟩

/-- Settles O9: the request is served, and no operation touches the inputs. -/
theorem stepRunsDecodedOperation : Obligations.StepRunsDecodedOperation := by
  refine fun s f rest i hs hdec => ⟨(step_of_request hs).trans (serve_ok hdec _), fun t ht => ?_⟩
  cases (step_of_decode_ok hs hdec).symm.trans ht
  rfl

/-- Settles O12: the step looks at the inputs first. -/
theorem idleKeepsState : Obligations.IdleKeepsState :=
  fun _ => step_of_no_input

/-- Settles O50: at reset there is no response to agree with. -/
theorem responseAgreesAtReset : Obligations.ResponseAgreesAtReset :=
  True.intro

/-- The three patterns of S7 and the numbers they denote (R101). -/
theorem floatValue_scenario : floatValue 0x4454A000 = some (1701 / 2) ∧ floatValue 0x41BE0000 = some (95 / 4) ∧
    floatValue 0x42240000 = some 41 := by
  have h0 : floatExponent 0x4454A000 = 136 ∧ floatFraction 0x4454A000 = 0x54A000 := by decide
  have h1 : floatExponent 0x41BE0000 = 131 ∧ floatFraction 0x41BE0000 = 0x3E0000 := by decide
  have h2 : floatExponent 0x42240000 = 132 ∧ floatFraction 0x42240000 = 0x240000 := by decide
  rw [floatValue_of_normal rfl rfl, floatValue_of_normal rfl rfl, floatValue_of_normal rfl rfl, h0.1, h0.2, h1.1, h1.2,
    h2.1, h2.2]
  norm_num

/-- Settles O56: the six words validate, so they are delivered, and the patterns are read as numbers. -/
theorem measurementScenario : Obligations.MeasurementScenario :=
  fun s => ⟨_, exec_mdec_of_all_valid all_wordValid_example s, rfl, floatValue_scenario⟩

end Sys2Proof.Proofs
end
